-- ==== Sys2Proof/Word.lean ====
section
/-! DEFINITION. The word types of the L84's links and printer line (R180, R90, R184): bytes and the multi-byte
fields, and the numbers the manual says wrap round (job numbers, shift numbers, record numbers, event numbers,
the day number). Everything else the manual counts is a Nat. -/

namespace Sys2Proof

/-- One byte of a message (R180, R90). -/
abbrev Byte := BitVec 8
/-- A 2-byte field (R184). -/
abbrev Half := BitVec 16
/-- A 3-byte field: serials, and money up to 9,999,999 (R184). -/
abbrev Three := BitVec 24
/-- A 4-byte field: money above 9,999,999, signed amounts (R184). -/
abbrev Four := BitVec 32

/-- A job number, 0 to 255, wrapping (R25). -/
abbrev JobNo := BitVec 8
/-- A shift number, 0 to 65,535, wrapping (R152). -/
abbrev ShiftNo := BitVec 16
/-- A fault record number, 0 to 65,535, wrapping (R132). -/
abbrev RecordNo := BitVec 16
/-- A printer event number, 0 to 15, wrapping (R98). -/
abbrev EventNo := BitVec 4
/-- The day number of the office clock, 0 to 65,535, wrapping (R197). -/
abbrev DayNo := BitVec 16

end Sys2Proof
end

