-- ==== Sys2Proof/Config.lean ====
section
/-! DEFINITION. The fixed quantities of the L84: capacities, limits and times, each with the rule that states it.
The manual fixes every one of them; it leaves no value to an implementation, so there is no free value here. -/

namespace Sys2Proof.Config

/-- Active jobs the job table holds (R27). -/
def maxJobs : Nat := 32
/-- A window's load: its active jobs plus its carried notices (R27). -/
def maxLoad : Nat := 8
/-- Active jobs from which the HALF flag is present (R30). -/
def halfJobs : Nat := 16
/-- Entries of a recent issue list (R36). -/
def maxRecent : Nat := 4
/-- Entries plus reservations of the exception list (R63, R64). -/
def maxExceptions : Nat := 64
/-- Entries of a trace ring (R106). -/
def maxRing : Nat := 16
/-- Records of the fault log (R132). -/
def maxFaults : Nat := 24
/-- Records of the cash-up list (R175). -/
def maxCashUps : Nat := 12
/-- Held requests of a link (R182). -/
def maxHeld : Nat := 2
/-- Owed refusals of a link (R182). -/
def maxOwed : Nat := 4
/-- Bytes of a link message body (R180). -/
def maxLinkBody : Nat := 120
/-- Bytes of a printer-line message body (R90). -/
def maxLineBody : Nat := 100

/-- The largest ticket total (R14). -/
def maxTotal : Nat := 9999999
/-- The limit of a tally count (R159). -/
def maxCount : Nat := 65535
/-- The limit of a tally amount, and of a declared amount (R159, R165). -/
def maxAmount : Nat := 999999999
/-- The limit of the spoiled and voided counts (R65). -/
def maxStockCount : Nat := 999999
/-- The highest serial (R45). -/
def maxSerial : Nat := 999999
/-- Blanks of the largest pack (R48). -/
def maxPack : Nat := 500
/-- The highest reload value (R61). -/
def maxReload : Nat := 2047
/-- The highest low threshold (R62). -/
def maxThreshold : Nat := 500
/-- The highest void period in minutes (R124). -/
def maxVoidPeriod : Nat := 60
/-- The highest capture lead (R137). -/
def maxLead : Nat := 7
/-- The furthest tolerance thresholds (R169). -/
def maxTolerance : Nat := 99999

/-- Units of 10 ms in the 100 ms of the pacing settings (R77). -/
def pacingUnit : Nat := 10
/-- The FEEDING limit, 3 s, in units of 10 ms (R109). -/
def feedingLimit : Nat := 300
/-- The PRINTING limit, 5 s (R109). -/
def printingLimit : Nat := 500
/-- The DELIVERING limit, 4 s (R109). -/
def deliveringLimit : Nat := 400
/-- The clock's minute, 60 s (R197). -/
def minuteTicks : Nat := 6000
/-- The longest start, 250 ms (R199). -/
def startTicks : Nat := 25
/-- Minutes of a day (R197). -/
def minutesPerDay : Nat := 1440
/-- Minutes of the day-number cycle (R124). -/
def cycleMinutes : Nat := 65536 * 1440

end Sys2Proof.Config
end

