-- ==== Sys2Proof/Syntax.lean ====
section
/-! DEFINITION. The commands of the L84: one constructor of `Instr` for each row of spec/opcode_table.json.
A request that arrives on a link is a command whose operands are the fields of its message body at the widths the
links give them (R184, R191, R194), codes still as the bytes that carry them, so that the checks of the owning rules
are part of the meaning. A window request names its link by a `Window`; an office request came on the office link. -/

namespace Sys2Proof

/-- The booking windows 1 to 6. -/
inductive Window where
  | w1 | w2 | w3 | w4 | w5 | w6
deriving DecidableEq, Repr

/-- The printers, at addresses 1 to 4 of the printer line. -/
inductive Printer where
  | p1 | p2 | p3 | p4
deriving DecidableEq, Repr

/-- The two stock types. -/
inductive Stock where
  | ticket | coupon
deriving DecidableEq, Repr

/-- A magazine, named by its printer and stock type: 1T to 4C. -/
structure MagId where
  printer : Printer
  stock : Stock
deriving DecidableEq, Repr

/-- The seven links (R179). -/
inductive Link where
  | window (w : Window)
  | office
deriving DecidableEq, Repr

/-- One passenger line of an ISSUE body (R191). -/
structure LineReq where
  fareClass : Byte
  quantity : Byte
  fare : Three
  code : Byte
deriving DecidableEq, Repr

/-- The fields of an ISSUE body (R191). The number of lines and the route code length are those of the two lists;
a body whose length does not match its counts is no ISSUE but `Instr.unknownKind` (R181, R191). -/
structure IssueReq where
  stock : Byte
  tender : Byte
  supplement : Three
  validity : Half
  coach : Byte
  seat : Byte
  route : List Byte
  lines : List LineReq
deriving DecidableEq, Repr

/-- One event of a STATUS reply, as its eight bytes give it (R97). -/
structure RawEvent where
  num : Byte
  kind : Byte
  qual : Byte
  tagWindow : Byte
  tagJob : Byte
  serial : Three
deriving DecidableEq, Repr

/-- The body of a STATUS reply (R97); the number of events is that of the list. -/
structure StatusReply where
  marks : Byte
  latched : Byte
  newest : Byte
  events : List RawEvent
deriving DecidableEq, Repr

/-- The cause of a miss (R96). -/
inductive MissCause where
  | timeout | framing | check | address | form
deriving DecidableEq, Repr

/-- Why a link message is discarded with a LINE refusal owed (R180). -/
inductive LineCause where
  | badCheck | badStopBit | tooLong
deriving DecidableEq, Repr

/-- The three line-rate straps as read at power-on; a field is true for a closed strap (R89, R179). -/
structure Straps where
  link1 : Bool
  link2 : Bool
  printer : Bool
deriving DecidableEq, Repr

/-- The commands: the requests of the window links, the requests of the office link, the link events, the printer-line
events, and the timer, counter and supply events of spec/opcode_table.json. -/
inductive Instr where
  -- window requests
  | issue (w : Window) (r : IssueReq)
  | cancel (w : Window) (job : JobNo)
  | queryJob (w : Window) (job : JobNo)
  | void (w : Window) (job : JobNo)
  | clearPrinter (w : Window) (printer : Byte)
  | openShift (w : Window) (clerk : Half) (float : Three)
  | closeShift (w : Window)
  | declare (w : Window) (tender : Byte) (amount : Four)
  | declareEnd (w : Window)
  | windowStatus (w : Window)
  -- office requests: device and cursor
  | officeStatus (sect : Byte) (index : Byte)
  | setClock (day : Half) (minute : Half)
  | restart
  | coldStart
  | select (list : Byte) (param : Byte) (index : Byte) (mode : Byte)
  | read
  -- office requests: fares and jobs
  | writeDiscount (page : Byte) (entry : Byte) (rate : Half) (mode : Byte) (minimum : Three) (restricted : Byte)
  | switchPage
  | flushWindow (window : Byte)
  | resolve (window : Byte) (job : JobNo) (resolution : Byte)
  | resolveWindow (window : Byte)
  | setVoidPeriod (minutes : Byte)
  -- office requests: stock and printers
  | loadPack (mag : Byte) (first : Three) (count : Half)
  | unload (mag : Byte)
  | hold (mag : Byte)
  | reinstate (mag : Byte)
  | setStock (stock : Byte) (reload : Half) (threshold : Half)
  | setPrinter (printer : Byte) (base : Byte) (multiplier : Byte) (changeover : Byte)
  | setRoute (window : Byte) (home : Byte) (alternate : Byte)
  | withdraw (printer : Byte)
  | returnPrinter (printer : Byte)
  | flushPrinter (printer : Byte)
  -- office requests: faults
  | setLead (lead : Byte)
  | acknowledge (mode : Byte) (number : RecordNo)
  -- office requests: shifts and cash-up
  | clearFlags (window : Byte) (flags : Half)
  | setFlags (window : Byte) (flags : Half)
  | toggleFlags (window : Byte) (flags : Half)
  | testFlags (window : Byte) (flags : Half)
  | setLimit (window : Byte) (limit : Three)
  | forceClose (window : Byte)
  | latch (windows : Byte) (part : Byte)
  | readLatched (window : Byte)
  | setTolerance (tender : Byte) (low : Four) (high : Four) (required : Byte)
  | collect (mode : Byte) (key : Option (Byte × ShiftNo))
  | release (window : Byte) (shift : ShiftNo)
  -- link events
  | unknownKind (l : Link) (kind : Byte)
  | line (l : Link) (cause : LineCause)
  | overrun (l : Link)
  | gapDiscard (l : Link)
  | requestDuringStart (l : Link) (kind : Byte)
  | transmitComplete (l : Link)
  | linkReadyAsserted (l : Link)
  -- printer-line events
  | poll
  | print
  | clear
  | goodReply (r : StatusReply)
  | miss (cause : MissCause)
  -- counter, timer, clock and supply events
  | auditCounterZero (m : MagId)
  | stageExpiry (p : Printer)
  | pacingWaitExpiry (p : Printer)
  | clockAdvance
  | powerOn (straps : Straps)
  | mainSupplyLoss
  | retentionSupplyLow
  | startComplete
  | readyInputFalls (l : Link)
deriving DecidableEq, Repr

end Sys2Proof
end

