-- ==== Sys2Proof/WellFormed.lean ====
section
/-! DEFINITION. When a command is well formed: its operands are those a message on the wire can carry. A request's body
is at most 120 bytes long (R180) and gives each count in one byte (R191); a status reply's body is at most 100 bytes long
(R90). Values a rule refuses are well formed: refusing them is part of the meaning. -/

namespace Sys2Proof

/-- The length of an ISSUE body with a route code of `c` characters and `n` lines (R191). -/
def issueBodyLength (c n : Nat) : Nat := 11 + c + 6 * n

/-- An ISSUE body fits a link message (R180, R191). -/
def IssueReq.wf (r : IssueReq) : Bool := issueBodyLength r.route.length r.lines.length ≤ Config.maxLinkBody

/-- The length of a STATUS reply's body with `k` events (R97). -/
def statusBodyLength (k : Nat) : Nat := 4 + 8 * k

/-- A STATUS reply fits a printer-line message (R90, R97). -/
def StatusReply.wf (r : StatusReply) : Bool := statusBodyLength r.events.length ≤ Config.maxLineBody

/-- A command is well formed. -/
def Instr.wf : Instr → Bool
  | .issue _ r => r.wf
  | .goodReply r => r.wf
  | .cancel _ _ | .queryJob _ _ | .void _ _ | .clearPrinter _ _ | .openShift _ _ _ | .closeShift _ | .declare _ _ _
  | .declareEnd _ | .windowStatus _ | .officeStatus _ _ | .setClock _ _ | .restart | .coldStart | .select _ _ _ _
  | .read | .writeDiscount _ _ _ _ _ _ | .switchPage | .flushWindow _ | .resolve _ _ _ | .resolveWindow _
  | .setVoidPeriod _ | .loadPack _ _ _ | .unload _ | .hold _ | .reinstate _ | .setStock _ _ _ | .setPrinter _ _ _ _
  | .setRoute _ _ _ | .withdraw _ | .returnPrinter _ | .flushPrinter _ | .setLead _ | .acknowledge _ _
  | .clearFlags _ _ | .setFlags _ _ | .toggleFlags _ _ | .testFlags _ _ | .setLimit _ _ | .forceClose _ | .latch _ _
  | .readLatched _ | .setTolerance _ _ _ _ | .collect _ _ | .release _ _ | .unknownKind _ _ | .line _ _ | .overrun _
  | .gapDiscard _ | .requestDuringStart _ _ | .transmitComplete _ | .linkReadyAsserted _ | .poll | .print | .clear
  | .miss _ | .auditCounterZero _ | .stageExpiry _ | .pacingWaitExpiry _ | .clockAdvance | .powerOn _ | .mainSupplyLoss
  | .retentionSupplyLow | .startComplete | .readyInputFalls _ => true

end Sys2Proof
end

