-- ==== Sys2Proof/Decode.lean ====
section
/-! DEFINITION. The words of the opcode table, and the messages of the links.

The table gives its rows no bits, so a table word spells no command. What spells a command is a link message (R180): its
kind names the request and its body carries the request's fields (R181, R184, R191). Decoding is total: a message whose
check fails is a LINE event, and one that fits no request of its link is a command of unknown kind, answered BAD_FORM. -/

namespace Sys2Proof

/-- The command a table word spells: the table gives no row any bits, so there is none. -/
def decodeTableWord (_nbits _w : Nat) : Option Instr := none

/-! ### Fields of a body, most significant byte first (R184) -/

/-- A 2-byte value. -/
def half (a b : Byte) : Half := a ++ b
/-- A 3-byte value. -/
def three (a b c : Byte) : Three := a ++ b ++ c
/-- A 4-byte value. -/
def four (a b c d : Byte) : Four := a ++ b ++ c ++ d

/-- The byte of a value that has `k` bytes below it. -/
def byteAt (v : BitVec n) (k : Nat) : Byte := v.extractLsb' (8 * k) 8

/-- The two bytes of a value. -/
def bytes2 (v : Half) : List Byte := [byteAt v 1, byteAt v 0]
/-- The three bytes of a value. -/
def bytes3 (v : Three) : List Byte := [byteAt v 2, byteAt v 1, byteAt v 0]
/-- The four bytes of a value. -/
def bytes4 (v : Four) : List Byte := [byteAt v 3, byteAt v 2, byteAt v 1, byteAt v 0]

/-! ### The ISSUE body (R191) -/

/-- The passenger lines of an ISSUE body: `n` groups of six bytes and nothing after them. -/
def decodeLines : Nat → List Byte → Option (List LineReq)
  | 0, [] => some []
  | n + 1, k :: q :: a :: b :: c :: d :: rest =>
    (decodeLines n rest).map fun ls => ⟨k, q, three a b c, d⟩ :: ls
  | _, _ => none

/-- An ISSUE body; `none` when its length does not match its counts (R191). -/
def decodeIssue : List Byte → Option IssueReq
  | stock :: tender :: n :: s2 :: s1 :: s0 :: v1 :: v0 :: coach :: seat :: c :: rest =>
    if rest.length = c.toNat + 6 * n.toNat then
      (decodeLines n.toNat (rest.drop c.toNat)).map fun ls =>
        ⟨stock, tender, three s2 s1 s0, half v1 v0, coach, seat, rest.take c.toNat, ls⟩
    else none
  | _ => none

/-- The bytes of one passenger line (R191). -/
def encodeLine (l : LineReq) : List Byte := [l.fareClass, l.quantity] ++ bytes3 l.fare ++ [l.code]

/-- The body of an ISSUE (R191). -/
def encodeIssue (r : IssueReq) : List Byte :=
  [r.stock, r.tender, BitVec.ofNat 8 r.lines.length] ++ bytes3 r.supplement ++ bytes2 r.validity ++
    [r.coach, r.seat, BitVec.ofNat 8 r.route.length] ++ r.route ++ r.lines.flatMap encodeLine

/-! ### Requests by kind (R181) -/

/-- The command of a body of so many bytes; a body of any other length is `bad` (R181). -/
def fields0 (bad c : Instr) : List Byte → Instr
  | [] => c
  | _ => bad
def fields1 (bad : Instr) (f : Byte → Instr) : List Byte → Instr
  | [a] => f a
  | _ => bad
def fields2 (bad : Instr) (f : Byte → Byte → Instr) : List Byte → Instr
  | [a, b] => f a b
  | _ => bad
def fields3 (bad : Instr) (f : Byte → Byte → Byte → Instr) : List Byte → Instr
  | [a, b, c] => f a b c
  | _ => bad
def fields4 (bad : Instr) (f : Byte → Byte → Byte → Byte → Instr) : List Byte → Instr
  | [a, b, c, d] => f a b c d
  | _ => bad
def fields5 (bad : Instr) (f : Byte → Byte → Byte → Byte → Byte → Instr) : List Byte → Instr
  | [a, b, c, d, e] => f a b c d e
  | _ => bad

/-- The bodies of WRITE DISCOUNT, LOAD PACK, SET TOLERANCE and COLLECT (R191). -/
def decodeWriteDiscount (bad : Instr) : List Byte → Instr
  | [g, e, r1, r0, m, f2, f1, f0, x] => .writeDiscount g e (half r1 r0) m (three f2 f1 f0) x
  | _ => bad
def decodeLoadPack (bad : Instr) : List Byte → Instr
  | [m, s2, s1, s0, c1, c0] => .loadPack m (three s2 s1 s0) (half c1 c0)
  | _ => bad
def decodeSetTolerance (bad : Instr) : List Byte → Instr
  | [t, l3, l2, l1, l0, h3, h2, h1, h0, r] => .setTolerance t (four l3 l2 l1 l0) (four h3 h2 h1 h0) r
  | _ => bad
def decodeCollect (bad : Instr) : List Byte → Instr
  | [m] => .collect m none
  | [m, w, n1, n0] => .collect m (some (w, half n1 n0))
  | _ => bad

/-- A good message on a window link. -/
def decodeWindow (w : Window) (kind : Byte) (body : List Byte) : Instr :=
  let bad : Instr := .unknownKind (.window w) kind
  match kind.toNat with
  | 1 => (decodeIssue body).elim bad (.issue w)
  | 2 => fields1 bad (.cancel w) body
  | 3 => fields1 bad (.queryJob w) body
  | 4 => fields1 bad (.void w) body
  | 5 => fields1 bad (.clearPrinter w) body
  | 6 => fields5 bad (fun c1 c0 f2 f1 f0 => .openShift w (half c1 c0) (three f2 f1 f0)) body
  | 7 => fields0 bad (.closeShift w) body
  | 8 => fields5 bad (fun t a3 a2 a1 a0 => .declare w t (four a3 a2 a1 a0)) body
  | 9 => fields0 bad (.declareEnd w) body
  | 10 => fields0 bad (.windowStatus w) body
  | _ => bad

/-- A good message on the office link. -/
def decodeOffice (kind : Byte) (body : List Byte) : Instr :=
  let bad : Instr := .unknownKind .office kind
  match kind.toNat with
  | 10 => fields2 bad .officeStatus body
  | 11 => fields4 bad (fun d1 d0 m1 m0 => .setClock (half d1 d0) (half m1 m0)) body
  | 12 => fields0 bad .restart body
  | 13 => fields0 bad .coldStart body
  | 16 => fields4 bad .select body
  | 17 => fields0 bad .read body
  | 20 => decodeWriteDiscount bad body
  | 21 => fields0 bad .switchPage body
  | 24 => fields1 bad .flushWindow body
  | 25 => fields3 bad .resolve body
  | 26 => fields1 bad .resolveWindow body
  | 27 => fields1 bad .setVoidPeriod body
  | 30 => decodeLoadPack bad body
  | 31 => fields1 bad .unload body
  | 32 => fields1 bad .hold body
  | 33 => fields1 bad .reinstate body
  | 34 => fields5 bad (fun x r1 r0 t1 t0 => .setStock x (half r1 r0) (half t1 t0)) body
  | 38 => fields4 bad .setPrinter body
  | 39 => fields3 bad .setRoute body
  | 40 => fields1 bad .withdraw body
  | 41 => fields1 bad .returnPrinter body
  | 42 => fields1 bad .flushPrinter body
  | 44 => fields1 bad .setLead body
  | 45 => fields3 bad (fun m n1 n0 => .acknowledge m (half n1 n0)) body
  | 48 => fields3 bad (fun w f1 f0 => .clearFlags w (half f1 f0)) body
  | 49 => fields3 bad (fun w f1 f0 => .setFlags w (half f1 f0)) body
  | 50 => fields3 bad (fun w f1 f0 => .toggleFlags w (half f1 f0)) body
  | 51 => fields3 bad (fun w f1 f0 => .testFlags w (half f1 f0)) body
  | 52 => fields4 bad (fun w l2 l1 l0 => .setLimit w (three l2 l1 l0)) body
  | 53 => fields1 bad .forceClose body
  | 54 => fields2 bad .latch body
  | 55 => fields1 bad .readLatched body
  | 58 => decodeSetTolerance bad body
  | 59 => decodeCollect bad body
  | 60 => fields3 bad (fun w n1 n0 => .release w (half n1 n0)) body
  | _ => bad

/-- The command a good message spells on a link (R181). -/
def decodeRequest (l : Link) (kind : Byte) (body : List Byte) : Instr :=
  match l with
  | .window w => decodeWindow w kind body
  | .office => decodeOffice kind body

/-- A request's link, kind and body; `none` for a command that is no request (R181, R184, R191). -/
def encodeRequest : Instr → Option (Link × Byte × List Byte)
  | .issue w r => some (.window w, 1, encodeIssue r)
  | .cancel w n => some (.window w, 2, [n])
  | .queryJob w n => some (.window w, 3, [n])
  | .void w n => some (.window w, 4, [n])
  | .clearPrinter w p => some (.window w, 5, [p])
  | .openShift w c f => some (.window w, 6, bytes2 c ++ bytes3 f)
  | .closeShift w => some (.window w, 7, [])
  | .declare w t a => some (.window w, 8, t :: bytes4 a)
  | .declareEnd w => some (.window w, 9, [])
  | .windowStatus w => some (.window w, 10, [])
  | .officeStatus x i => some (.office, 10, [x, i])
  | .setClock d m => some (.office, 11, bytes2 d ++ bytes2 m)
  | .restart => some (.office, 12, [])
  | .coldStart => some (.office, 13, [])
  | .select l p i m => some (.office, 16, [l, p, i, m])
  | .read => some (.office, 17, [])
  | .writeDiscount g e r m f x => some (.office, 20, [g, e] ++ bytes2 r ++ [m] ++ bytes3 f ++ [x])
  | .switchPage => some (.office, 21, [])
  | .flushWindow w => some (.office, 24, [w])
  | .resolve w n r => some (.office, 25, [w, n, r])
  | .resolveWindow w => some (.office, 26, [w])
  | .setVoidPeriod v => some (.office, 27, [v])
  | .loadPack m f c => some (.office, 30, [m] ++ bytes3 f ++ bytes2 c)
  | .unload m => some (.office, 31, [m])
  | .hold m => some (.office, 32, [m])
  | .reinstate m => some (.office, 33, [m])
  | .setStock x r t => some (.office, 34, [x] ++ bytes2 r ++ bytes2 t)
  | .setPrinter p b m c => some (.office, 38, [p, b, m, c])
  | .setRoute w h a => some (.office, 39, [w, h, a])
  | .withdraw p => some (.office, 40, [p])
  | .returnPrinter p => some (.office, 41, [p])
  | .flushPrinter p => some (.office, 42, [p])
  | .setLead v => some (.office, 44, [v])
  | .acknowledge m n => some (.office, 45, m :: bytes2 n)
  | .clearFlags w f => some (.office, 48, w :: bytes2 f)
  | .setFlags w f => some (.office, 49, w :: bytes2 f)
  | .toggleFlags w f => some (.office, 50, w :: bytes2 f)
  | .testFlags w f => some (.office, 51, w :: bytes2 f)
  | .setLimit w l => some (.office, 52, w :: bytes3 l)
  | .forceClose w => some (.office, 53, [w])
  | .latch ws p => some (.office, 54, [ws, p])
  | .readLatched w => some (.office, 55, [w])
  | .setTolerance t l h r => some (.office, 58, [t] ++ bytes4 l ++ bytes4 h ++ [r])
  | .collect m none => some (.office, 59, [m])
  | .collect m (some (w, n)) => some (.office, 59, [m, w] ++ bytes2 n)
  | .release w n => some (.office, 60, w :: bytes2 n)
  | .unknownKind _ _ | .line _ _ | .overrun _ | .gapDiscard _ | .requestDuringStart _ _ | .transmitComplete _
  | .linkReadyAsserted _ | .poll | .print | .clear | .goodReply _ | .miss _ | .auditCounterZero _ | .stageExpiry _
  | .pacingWaitExpiry _ | .clockAdvance | .powerOn _ | .mainSupplyLoss | .retentionSupplyLow | .startComplete
  | .readyInputFalls _ => none

/-! ### The frame of a link message (R180) -/

/-- The sum of bytes, modulo 256. -/
def byteSum (bs : List Byte) : Byte := bs.foldl (· + ·) 0

/-- The check byte after the bytes of a message: it makes the sum of all of them 0 modulo 256 (R90, R180). -/
def checkByte (bs : List Byte) : Byte := 0 - byteSum bs

/-- A link message: kind, length, body, check (R180). -/
def frame (kind : Byte) (body : List Byte) : List Byte :=
  let bs := kind :: BitVec.ofNat 8 body.length :: body
  bs ++ [checkByte bs]

/-- What the arrival of bytes without a gap and with valid stop bits gives on a link: nothing while the message is not
complete, else a LINE event or the command of a good message (R180, R181). Bytes after a complete message start the next
one, and are not looked at. -/
def decodeMessage (l : Link) : List Byte → Option Instr
  | kind :: n :: rest =>
    if Config.maxLinkBody < n.toNat then some (.line l .tooLong)
    else if rest.length < n.toNat + 1 then none
    else if byteSum (kind :: n :: rest.take (n.toNat + 1)) = 0 then some (decodeRequest l kind (rest.take n.toNat))
    else some (.line l .badCheck)
  | _ => none

/-- The message of a request on its link; `none` for a command that is no request. -/
def encodeMessage (i : Instr) : Option (Link × List Byte) :=
  (encodeRequest i).map fun x => (x.1, frame x.2.1 x.2.2)

end Sys2Proof
end

