-- ==== Sys2Proof/Machine/State.lean ====
section
/-! DEFINITION. The state of the L84, as plain data: every record, list, mark, counter, timer and pin the manual gives
it, the replies it owes, the queue of commands that wait, and the state after reset. -/

namespace Sys2Proof.Machine

/-! ### Collections of a fixed number of like things -/

/-- One item for each window 1 to 6. -/
structure PerWindow (α : Type) where
  w1 : α
  w2 : α
  w3 : α
  w4 : α
  w5 : α
  w6 : α
deriving DecidableEq, Repr

/-- One item for each printer 1 to 4. -/
structure PerPrinter (α : Type) where
  p1 : α
  p2 : α
  p3 : α
  p4 : α
deriving DecidableEq, Repr

/-- One item for each stock type. -/
structure PerStock (α : Type) where
  ticket : α
  coupon : α
deriving DecidableEq, Repr

/-- One item for each tender (R150). -/
structure PerTender (α : Type) where
  cash : α
  card : α
  warrant : α
  voucher : α
deriving DecidableEq, Repr

/-- One item for each of the seven links (R179). -/
structure PerLink (α : Type) where
  window : PerWindow α
  office : α
deriving DecidableEq, Repr

/-! ### The clock (R197) -/

/-- An office-clock stamp: day, minute and the clock-not-set mark (R132, R184). The clock itself has this form. -/
structure Stamp where
  day : DayNo
  minute : Nat
  notSet : Bool
deriving DecidableEq, Repr

/-! ### The fare unit (R1, R2, R16) -/

/-- The number of a discount page, 0 or 1 (R1). -/
inductive Page where
  | zero | one
deriving DecidableEq, Repr

/-- The rounding modes (R10). -/
inductive Rounding where
  | nearest | down | up | five
deriving DecidableEq, Repr

/-- A discount entry (R2). -/
structure DiscountEntry where
  rate : Nat
  mode : Rounding
  minimum : Nat
  restricted : Bool
deriving DecidableEq, Repr

/-- The fixed content of entry 0, and of every entry after cold start (R1, R2). -/
def DiscountEntry.plain : DiscountEntry := ⟨0, .nearest, 0, false⟩

/-- The fare unit's state: two pages of 32 entries and the active page pointer (R1). -/
structure FareUnit where
  page0 : Vector DiscountEntry 32
  page1 : Vector DiscountEntry 32
  active : Page
deriving DecidableEq, Repr

/-- A condition set, or a sticky set: the pricing conditions and SAT (R16, R17, R160). -/
structure CondSet where
  rnd : Bool
  min : Bool
  big : Bool
  zero : Bool
  ovf : Bool
  sat : Bool
deriving DecidableEq, Repr

/-- The empty set. -/
def CondSet.none : CondSet := ⟨false, false, false, false, false, false⟩

/-! ### Jobs (R23, R24) -/

/-- A job's tag: window and job number. -/
structure Tag where
  window : Window
  job : JobNo
deriving DecidableEq, Repr

/-- The tenders. -/
inductive Tender where
  | cash | card | warrant | voucher
deriving DecidableEq, Repr

/-- The fare classes (R6). -/
inductive FareClass where
  | first | standard
deriving DecidableEq, Repr

/-- The active states of a job (R23). -/
inductive JobState where
  | queued | staged | feeding | printing | delivering | inDoubt
deriving DecidableEq, Repr

/-- A passenger line of a job record, with its charge P and amount L (R24). -/
structure PricedLine where
  fareClass : FareClass
  quantity : Nat
  fare : Nat
  code : Nat
  charge : Nat
  amount : Nat
deriving DecidableEq, Repr

/-- A seat reference: coach letter and seat (R6). -/
structure Seat where
  coach : Byte
  seat : Byte
deriving DecidableEq, Repr

/-- A job record (R24). Its acceptance sequence is its position in `State.jobs` (R28). -/
structure Job where
  tag : Tag
  shift : ShiftNo
  stock : Stock
  lines : List PricedLine
  supplement : Option Nat
  tender : Tender
  route : List Byte
  validity : Half
  seat : Option Seat
  page : Page
  total : Nat
  referred : Bool
  state : JobState
  printer : Option Printer
  serial : Option Nat
  retry : Nat
deriving DecidableEq, Repr

/-- An entry of a window's recent issue list (R36). -/
structure RecentEntry where
  tag : Tag
  stock : Stock
  serial : Nat
  total : Nat
  tender : Tender
  issued : Stamp
  voided : Bool
deriving DecidableEq, Repr

/-! ### Notices (R38 to R41, R157, R192) -/

/-- Why a job FAILED or was CANCELLED (R39). -/
inductive Reason where
  | jam | noProgress | offline | restart | flush
deriving DecidableEq, Repr

/-- How the office settles an IN_DOUBT job (R120). -/
inductive Resolution where
  | issued | spoiled
deriving DecidableEq, Repr

/-- The kinds of job notice, with their qualifiers (R39). -/
inductive JobNoticeKind where
  | done
  | failed (r : Reason)
  | cancelled (r : Reason)
  | inDoubt
  | resolved (r : Resolution)
deriving DecidableEq, Repr

/-- A job notice (R39, R192). -/
structure JobNotice where
  kind : JobNoticeKind
  tag : Tag
  stock : Stock
  total : Nat
  serial : Option Nat
deriving DecidableEq, Repr

/-- The shift states (R151). -/
inductive ShiftState where
  | closed | opened | closing | declaring | listWait
deriving DecidableEq, Repr

/-- The overall results (R172). -/
inductive Overall where
  | balanced | short | over | unordered
deriving DecidableEq, Repr

/-- The tender results (R171). -/
inductive TenderResult where
  | balanced | short | over | unordered | notDeclared
deriving DecidableEq, Repr

/-- A shift notice (R157, R192). -/
structure ShiftNotice where
  window : Window
  number : ShiftNo
  state : ShiftState
  active : Nat
  ended : Bool
  forced : Bool
  result : Option Overall
deriving DecidableEq, Repr

/-- A notice. -/
inductive Notice where
  | job (n : JobNotice)
  | shift (n : ShiftNotice)
deriving DecidableEq, Repr

/-- The record a notice reference names (R38). -/
inductive RefTarget where
  | job (n : JobNo)
  | recent (n : JobNo)
  | shift
  | carried
deriving DecidableEq, Repr

/-- A reference of a notice list, with the notice it holds (R38). -/
structure NoticeRef where
  target : RefTarget
  notice : Notice
deriving DecidableEq, Repr

/-! ### The stock register (R45, R61 to R65) -/

/-- Why a magazine is HELD (R45). -/
inductive HoldReason where
  | opened | office | restart | noProgress
deriving DecidableEq, Repr

/-- The magazine states; the hold reason stands in HELD only (R45, R46). -/
inductive MagState where
  | empty | pending | active
  | held (r : HoldReason)
  | discrepant | exhausted
deriving DecidableEq, Repr

/-- The pack fields of a magazine record (R45). -/
structure Pack where
  first : Nat
  last : Nat
  next : Nat
deriving DecidableEq, Repr

/-- A magazine record (R45). -/
structure Magazine where
  state : MagState
  notSighted : Bool
  pack : Option Pack
  committed : Nat
  counter : Nat
  sightDue : Bool
  low : Bool
deriving DecidableEq, Repr

/-- A magazine after cold start (R68). -/
def Magazine.cleared : Magazine := ⟨.empty, false, none, 0, 0, false, false⟩

/-- The settings and counts of a stock type (R61, R62, R65). -/
structure StockSettings where
  reload : Nat
  pendingReload : Option Nat
  threshold : Nat
  spoiled : Nat
  voided : Nat
deriving DecidableEq, Repr

/-- The dispositions of an exception entry (R63). -/
inductive Disposition where
  | spoiled | inDoubt | voided
deriving DecidableEq, Repr

/-- The reasons of an exception entry (R63). -/
inductive ExcReason where
  | jam | sight | noProgress | offline | restart | office | void
deriving DecidableEq, Repr

/-- An exception entry (R63). -/
structure ExcEntry where
  stock : Stock
  serial : Nat
  disposition : Disposition
  reason : ExcReason
  tag : Option Tag
  sighted : Option Nat
  stamp : Stamp
deriving DecidableEq, Repr

/-! ### The dispatcher (R69 to R72) -/

/-- The printer fault kinds (R69, R97). -/
inductive FaultKind where
  | feedJam | exitJam | headFault | coverOpen
deriving DecidableEq, Repr

/-- The printer states; the fault kind stands in FAULTED only (R69, R70). -/
inductive PrinterState where
  | offline | ready
  | faulted (k : FaultKind)
  | withdrawn
deriving DecidableEq, Repr

/-- The stages of a job in a printer's slots (R109, R131). -/
inductive Stage where
  | staged | feeding | printing | delivering
deriving DecidableEq, Repr

/-- A running stage timer: the stage it times and when the limit runs out (R109). -/
structure StageTimer where
  stage : Stage
  limit : Nat
deriving DecidableEq, Repr

/-- A current slot that is not empty: the job, and the expected serial and sight-request mark of its print command,
which R57 compares the FED with after the pending command is gone. -/
structure Current where
  tag : Tag
  expected : Nat
  sight : Bool
deriving DecidableEq, Repr

/-- A printer record (R69) with its stage timer (R109). -/
structure PrinterRec where
  state : PrinterState
  returnMark : Bool
  staged : Option Tag
  current : Option Current
  lastStock : Option Stock
  lastOutcome : Option Nat
  base : Nat
  multiplier : Nat
  changeover : Nat
  timer : Option StageTimer
deriving DecidableEq, Repr

/-- A printer record after cold start (R88). -/
def PrinterRec.cleared : PrinterRec := ⟨.offline, false, none, none, none, none, 2, 1, 8, none⟩

/-- A window's routing entry (R72). -/
structure Route where
  home : Printer
  alternate : Option Printer
deriving DecidableEq, Repr

/-! ### The printer line (R92, R106) -/

/-- The content of a PRINT, fixed when it is given (R79, R95). -/
structure PrintCmd where
  tag : Tag
  stock : Stock
  sight : Bool
  expected : Nat
  total : Nat
  lines : List PricedLine
  route : List Byte
  validity : Half
  seat : Option Seat
deriving DecidableEq, Repr

/-- A pending command (R92). -/
inductive PendingCmd where
  | print (c : PrintCmd)
  | clear
deriving DecidableEq, Repr

/-- The acknowledgement a command carries: the last-taken number and the resync mark (R95). -/
structure Ack where
  number : EventNo
  resync : Bool
deriving DecidableEq, Repr

/-- The command of a turn (R93). -/
inductive TurnCmd where
  | poll
  | print (c : PrintCmd)
  | clear
deriving DecidableEq, Repr

/-- The turn in progress: the printer, the command as sent, and whether that command is still the printer's pending
command (R93, R94). -/
structure Turn where
  printer : Printer
  ack : Ack
  cmd : TurnCmd
  live : Bool
deriving DecidableEq, Repr

/-- The kinds of trace entry with their qualifiers (R106). -/
inductive TraceKind where
  | print | clear | fed | printed | ejected
  | fault (k : FaultKind)
  | magOpen (x : Stock)
  | magClosed (x : Stock)
  | miss (c : MissCause)
  | noResponse
  | timeout (g : Stage)
  | emptyShown (x : Stock)
deriving DecidableEq, Repr

/-- A trace entry (R106). -/
structure TraceEntry where
  kind : TraceKind
  tag : Option Tag
  serial : Option Nat
  stamp : Stamp
deriving DecidableEq, Repr

/-- The state marks and latched fault kind of a good reply, as reported (R92, R97). -/
structure Marks where
  marks : Byte
  latched : Byte
deriving DecidableEq, Repr

/-- A line record (R92). -/
structure LineRec where
  pendingCmd : Option PendingCmd
  lastTaken : EventNo
  synced : Bool
  misses : Nat
  lastMarks : Option Marks
  ring : List TraceEntry
deriving DecidableEq, Repr

/-- A line record after a start (R108). -/
def LineRec.cleared : LineRec := ⟨none, 0, false, 0, none, []⟩

/-! ### The fault log (R131 to R137) -/

/-- The kinds of fault record (R130). -/
inductive RecordKind where
  | printer (k : FaultKind)
  | sightMismatch | magazineDiscrepant | magazineOpened | noResponse | noProgress | restart | retentionLost
deriving DecidableEq, Repr

/-- What made a start: power-on or an office request (R131, R198). -/
inductive StartCause where
  | power | office
deriving DecidableEq, Repr

/-- The states of a fault record (R133). -/
inductive RecordState where
  | capturing | opened | acknowledged
deriving DecidableEq, Repr

/-- A fault record (R131). -/
structure FaultRecord where
  number : RecordNo
  kind : RecordKind
  printer : Option Printer
  stage : Option Stage
  tag : Option Tag
  serial : Option Nat
  sighted : Option Nat
  mag : Option MagId
  startCause : Option StartCause
  stamp : Stamp
  state : RecordState
  ackPending : Bool
  target : Nat
  snapshot : List TraceEntry
deriving DecidableEq, Repr

/-- The fault log, oldest record first (R132, R135, R137). -/
structure FaultLog where
  records : List FaultRecord
  lead : Nat
  overrun : Bool
  nextNumber : RecordNo
deriving DecidableEq, Repr

/-! ### Shifts and cash-up (R146 to R178) -/

/-- A window's profile: the nine flags, bits 0 to 8 in the order of R146 and R184, and the single-ticket limit. -/
structure Profile where
  flags : BitVec 9
  limit : Nat
deriving DecidableEq, Repr

/-- The default profile: COUPON, VOID, DIVERT and the four masks present, limit 500,000 (R146). -/
def Profile.default : Profile := ⟨0x1F3#9, 500000⟩

/-- One tender's tally (R150). -/
structure TenderTally where
  count : Nat
  net : Nat
deriving DecidableEq, Repr

/-- The tallies of a shift (R150). -/
structure Tallies where
  tender : PerTender TenderTally
  voidCount : Nat
  voidAmount : Nat
  stock : PerStock Nat
  referred : Nat
deriving DecidableEq, Repr

/-- Every tally 0 (R152). -/
def Tallies.zero : Tallies := ⟨⟨⟨0, 0⟩, ⟨0, 0⟩, ⟨0, 0⟩, ⟨0, 0⟩⟩, 0, 0, ⟨0, 0⟩, 0⟩

/-- One tender of a cash-up record (R173). -/
structure CashUpTender where
  count : Nat
  net : Nat
  expected : Nat
  declared : Option Nat
  variance : Option Int
  result : TenderResult
deriving DecidableEq, Repr

/-- A cash-up record (R173). -/
structure CashUp where
  window : Window
  clerk : Option Nat
  shift : ShiftNo
  openStamp : Option Stamp
  closeStamp : Option Stamp
  float : Nat
  tender : PerTender CashUpTender
  voidCount : Nat
  voidAmount : Nat
  stock : PerStock Nat
  referred : Nat
  sticky : CondSet
  overall : Overall
  forced : Bool
  collected : Bool
deriving DecidableEq, Repr

/-- A shift record (R150) with its declaration state (R165). -/
structure ShiftRec where
  state : ShiftState
  number : ShiftNo
  clerk : Option Nat
  float : Nat
  openStamp : Option Stamp
  closeStamp : Option Stamp
  tallies : Tallies
  sticky : CondSet
  staged : PerTender (Option Nat)
  declared : PerTender (Option Nat)
  ended : Bool
  forced : Bool
  active : Nat
  heldRecord : Option CashUp
  nextJob : JobNo
deriving DecidableEq, Repr

/-- No value staged, or none declared, for any tender (R165). -/
def PerTender.absent : PerTender (Option Nat) := ⟨none, none, none, none⟩

/-- A shift record after cold start (R164). -/
def ShiftRec.cleared : ShiftRec :=
  ⟨.closed, 0, none, 0, none, none, .zero, .none, .absent, .absent, false, false, 0, none, 0⟩

/-- The parts of a LATCH (R161). -/
inductive LatchPart where
  | tallies | state | both
deriving DecidableEq, Repr

/-- The STATE part of a snapshot (R161). -/
structure SnapState where
  state : ShiftState
  clerk : Option Nat
  float : Nat
  openStamp : Option Stamp
  closeStamp : Option Stamp
  active : Nat
  ended : Bool
  forced : Bool
  waitPosition : Option Nat
deriving DecidableEq, Repr

/-- A latched snapshot (R161). -/
structure Snapshot where
  window : Window
  shift : ShiftNo
  stamp : Stamp
  part : LatchPart
  tallies : Option (Tallies × CondSet)
  state : Option SnapState
deriving DecidableEq, Repr

/-- What the part holds for one window: shift record, profile, recent issue list, notice list, unread snapshot. -/
structure WindowRec where
  shift : ShiftRec
  profile : Profile
  recent : List RecentEntry
  notices : List NoticeRef
  snapshot : Option Snapshot
deriving DecidableEq, Repr

/-- A window after cold start (R44, R164). -/
def WindowRec.cleared : WindowRec := ⟨.cleared, .default, [], [], none⟩

/-- A row of the tolerance table (R169). -/
structure Tolerance where
  low : Int
  high : Int
  required : Bool
deriving DecidableEq, Repr

/-! ### Replies (R183, R184) and what they give -/

/-- The refusal codes (section 10.5). -/
inductive Code where
  | badForm | badValue | line | overrun | notPermitted | shiftState | queueFull | windowFull | overflow | condBig
  | condZero | condMin | condRnd | unknownJob | tooLate | voidExpired | listFull | inUse | overlap | pageActive
  | wrongState | notCollected | latchEmpty | backlog
deriving DecidableEq, Repr

/-- The queue flags (R30). -/
structure QueueFlags where
  empty : Bool
  half : Bool
  full : Bool
deriving DecidableEq, Repr

/-- The link rates (R179). -/
inductive LinkRate where
  | b9600 | b19200 | b38400 | b57600
deriving DecidableEq, Repr

/-- The printer-line rates (R89). -/
inductive LineRate where
  | b19200 | b38400
deriving DecidableEq, Repr

/-- The DEVICE section (R188). -/
structure DeviceView where
  clock : Stamp
  linkRate : LinkRate
  lineRate : LineRate
  page : Page
  voidPeriod : Nat
  lead : Nat
  active : Nat
  flags : QueueFlags
  windows : PerWindow (Nat × Nat)
deriving DecidableEq, Repr

/-- The dispatcher's items of a printer in STATUS (R87). -/
structure PrinterView where
  state : PrinterState
  returnMark : Bool
  staged : Option Tag
  current : Option (Tag × JobState)
  lastStock : Option Stock
  base : Nat
  multiplier : Nat
  changeover : Nat
  waitLeft : Nat
deriving DecidableEq, Repr

/-- The pending command as STATUS shows it (R107). -/
inductive PendingView where
  | none
  | print (t : Tag)
  | clear
deriving DecidableEq, Repr

/-- The printer line's items of a printer in STATUS (R107). -/
structure LineView where
  rate : LineRate
  pendingCmd : PendingView
  lastTaken : EventNo
  synced : Bool
  misses : Nat
  lastMarks : Option Marks
  ringLength : Nat
deriving DecidableEq, Repr

/-- The STOCK section (R67, R188). -/
structure StockView where
  settings : PerStock StockSettings
  entries : Nat
  reservations : Nat
  free : Nat
deriving DecidableEq, Repr

/-- The FAULTS section (R144). -/
structure FaultsView where
  records : Nat
  capturing : Nat
  opened : Nat
  acknowledged : Nat
  marked : Nat
  overrun : Bool
  lead : Nat
  nextNumber : RecordNo
deriving DecidableEq, Repr

/-- What both forms of STATUS give of a window's shift record, profile and declaration state (R163, R165). -/
structure ShiftView where
  state : ShiftState
  number : ShiftNo
  clerk : Option Nat
  float : Nat
  openStamp : Option Stamp
  active : Nat
  tallies : Tallies
  sticky : CondSet
  ended : Bool
  flags : BitVec 9
  limit : Nat
  staged : PerTender (Option Nat)
  declared : PerTender (Option Nat)
deriving DecidableEq, Repr

/-- The WINDOW section: the items of R163 and R165 in the office form. -/
structure WindowView where
  shift : ShiftView
  forced : Bool
  closeStamp : Option Stamp
  waitOrder : List Window
  latched : Bool
deriving DecidableEq, Repr

/-- What the window STATUS gives of one of the window's printers: number, state and fault kind (R87), and the low
marks of its two magazines (R62). -/
structure PrinterBrief where
  printer : Printer
  state : PrinterState
  lowTicket : Bool
  lowCoupon : Bool
deriving DecidableEq, Repr

/-- The window form of STATUS (R188). -/
structure WindowStatus where
  active : Nat
  load : Nat
  full : Bool
  home : PrinterBrief
  alternate : Option PrinterBrief
  noPrinter : Bool
  shift : ShiftView
deriving DecidableEq, Repr

/-- The CASHUP section (R175, R188): for each window in LIST_WAIT its place and overall result. -/
structure CashUpView where
  records : Nat
  uncollected : Nat
  waiting : List (Window × Nat × Overall)
  tolerance : PerTender Tolerance
deriving DecidableEq, Repr

/-- The pack account of an UNLOAD (R49). -/
structure PackAccount where
  mag : MagId
  state : MagState
  pack : Pack
  drawn : Nat
  spoiled : Nat
  voided : Nat
  issued : Nat
  unused : Nat
  neverSighted : Bool
deriving DecidableEq, Repr

/-- The lists the office cursor reads, with their parameters (R186). -/
inductive CursorList where
  | faultLog | exceptions | cashUp | jobs
  | recent (w : Window)
  | trace (p : Printer)
  | discounts (g : Page)
deriving DecidableEq, Repr

/-- The cursor modes (R186). -/
inductive CursorMode where
  | sequential | random
deriving DecidableEq, Repr

/-- A record a READ gives whole (R187). -/
inductive CursorRecord where
  | fault (r : FaultRecord)
  | exception (e : ExcEntry)
  | cashUp (r : CashUp)
  | job (j : Job) (seq : Nat)
  | recent (e : RecentEntry)
  | trace (e : TraceEntry)
  | discount (g : Page) (number : Nat) (e : DiscountEntry)
deriving DecidableEq, Repr

/-- The results of TEST FLAGS (R148). -/
inductive TestResult where
  | all | some | none
deriving DecidableEq, Repr

/-- The results of a LATCH for one window (R161). -/
inductive LatchResult where
  | latched | kept
deriving DecidableEq, Repr

/-- The content of an accepted reply, by the rule that owns its request. -/
inductive Body where
  /-- ISSUE (R20, R26). -/
  | issued (tag : Tag) (total : Nat) (conds : CondSet) (referred : Bool)
  /-- CANCEL (R33). -/
  | cancelled
  /-- QUERY JOB of an active job, with its acceptance sequence (R37). -/
  | job (j : Job) (seq : Nat)
  /-- QUERY JOB of a recent issue (R37). -/
  | recent (e : RecentEntry)
  /-- VOID (R126). -/
  | voided (tag : Tag) (serial : Nat) (total : Nat) (tender : Tender)
  /-- CLEAR PRINTER (R84). -/
  | printerFault (state : PrinterState)
  /-- OPEN SHIFT (R152). -/
  | opened (number : ShiftNo) (clerk : Nat) (stamp : Stamp)
  /-- CLOSE SHIFT, FORCE CLOSE, and DECLARE END while jobs remain (R153, R154, R167). -/
  | shift (state : ShiftState) (active : Nat)
  /-- DECLARE (R166). -/
  | staged (values : PerTender (Option Nat))
  /-- DECLARE END that brought the compute on (R167). -/
  | computed (state : ShiftState) (result : Overall)
  /-- The window form of STATUS (R188). -/
  | windowStatus (v : WindowStatus)
  /-- The sections of the office form of STATUS (R188). -/
  | device (v : DeviceView)
  | printer (p : Printer) (v : PrinterView) (l : LineView)
  | routing (v : PerWindow Route)
  | magazineStatus (m : MagId) (v : Magazine)
  | stock (v : StockView)
  | faults (v : FaultsView)
  | window (w : Window) (v : WindowView)
  | cashUpStatus (v : CashUpView)
  /-- SET CLOCK (R189). -/
  | clock (c : Stamp)
  /-- RESTART and COLD START, when the start completes (R198). -/
  | started (warm : Bool) (c : Stamp)
  /-- SELECT (R186). -/
  | selected (l : CursorList) (index : Nat) (mode : CursorMode) (count : Nat)
  /-- READ (R187). -/
  | record (l : CursorList) (position : Nat) (r : CursorRecord)
  | readEnd (l : CursorList) (position : Nat)
  /-- WRITE DISCOUNT (R3). -/
  | discount (g : Page) (number : Nat) (e : DiscountEntry)
  /-- SWITCH PAGE (R4). -/
  | page (g : Page)
  /-- FLUSH WINDOW and RESOLVE WINDOW: the number of jobs (R35, R123). -/
  | count (n : Nat)
  /-- RESOLVE (R120). -/
  | resolved (tag : Tag) (serial : Option Nat) (r : Resolution) (total : Nat)
  /-- SET VOID PERIOD and SET LEAD: the value stored (R124, R140). -/
  | value (n : Nat)
  /-- LOAD PACK, HOLD and REINSTATE: the magazine record (R48, R50, R51). -/
  | magazine (m : MagId) (v : Magazine)
  /-- UNLOAD (R49). -/
  | account (a : PackAccount)
  /-- SET STOCK (R61). -/
  | stockSet (reload : Nat) (pendingReload : Option Nat) (threshold : Nat)
  /-- SET PRINTER (R71). -/
  | pacing (base : Nat) (multiplier : Nat) (changeover : Nat)
  /-- SET ROUTE (R72). -/
  | route (r : Route)
  /-- WITHDRAW and RETURN: the printer record (R81, R82). -/
  | printerRecord (p : Printer) (r : PrinterRec)
  /-- FLUSH PRINTER: the job returned, or the slot empty (R83). -/
  | flushed (t : Option Tag)
  /-- ACKNOWLEDGE in SINGLE mode and in UP_TO mode (R141). -/
  | acknowledged (number : RecordNo) (state : RecordState) (marked : Bool)
  | acknowledgedUpTo (made : Nat) (marked : Nat)
  /-- CLEAR, SET and TOGGLE FLAGS (R147). -/
  | flags (f : BitVec 9)
  /-- TEST FLAGS (R148). -/
  | tested (r : TestResult) (f : BitVec 9)
  /-- SET LIMIT (R149). -/
  | limit (n : Nat)
  /-- LATCH (R161). -/
  | latched (r : List (Window × LatchResult))
  /-- READ LATCHED (R162). -/
  | snapshot (v : Snapshot)
  /-- SET TOLERANCE (R169). -/
  | tolerance (t : Tolerance)
  /-- COLLECT (R176). -/
  | cashUp (r : CashUp)
  /-- RELEASE (R177). -/
  | released (w : Window) (shift : ShiftNo) (left : Nat) (admitted : List Window)
deriving DecidableEq, Repr

/-- A reply (R184): accepted with its request's kind and body; refused; or an ISSUE refused at pricing, which also
carries the condition set and the total (R20). An owed refusal carries kind 0. -/
inductive Reply where
  | accepted (kind : Byte) (body : Body)
  | refused (kind : Byte) (code : Code)
  | priced (code : Code) (conds : CondSet) (total : Nat)
deriving DecidableEq, Repr

/-! ### Links (R179, R182, R185) and the cursor (R186) -/

/-- What an entry of the reply order is: a held request, an owed refusal, or the reply to a RESTART or COLD START,
which counts against neither limit (R182). -/
inductive EntryKind where
  | held | owed | start
deriving DecidableEq, Repr

/-- An entry of a reply order (R182). -/
structure ReplyEntry where
  kind : EntryKind
  reply : Reply
deriving DecidableEq, Repr

/-- The message a link transmitter is sending. -/
inductive Sending where
  | reply (r : Reply)
  | notice (n : Notice)
deriving DecidableEq, Repr

/-- The last-sent mark (R185). -/
inductive LastSent where
  | reply | notice
deriving DecidableEq, Repr

/-- A byte that a receiver takes from its line, and whether its stop bit was valid (R89, R96, R179, R180). -/
structure RxByte where
  byte : Byte
  stop : Bool
deriving DecidableEq, Repr

/-- A link: its reply order, the message going out, the last-sent mark, the terminal's ready input, whether the receiver is
discarding bytes until a gap, and the bytes of the message in progress in the receiver (R179, R180, R182, R185). -/
structure LinkRec where
  order : List ReplyEntry
  sending : Option Sending
  lastSent : LastSent
  ready : Bool
  discarding : Bool
  arriving : List RxByte
deriving DecidableEq, Repr

/-- What comes in on the wires, one thing at a time: a byte on a link, a gap of more than 20 ms on a link, a byte on the
printer line, 12 bit times of idle after it, and the close of the reply window (R91, R93, R180). -/
inductive Arrival where
  | byte (l : Link) (b : RxByte)
  | gap (l : Link)
  | lineByte (b : RxByte)
  | lineIdle
  | windowCloses
deriving DecidableEq, Repr

/-- The office cursor (R186). -/
structure Cursor where
  selection : Option CursorList
  position : Nat
  mode : CursorMode
deriving DecidableEq, Repr

/-- The cursor after a start (R186). -/
def Cursor.cleared : Cursor := ⟨none, 1, .sequential⟩

/-! ### Power and starts (R195 to R199) -/

/-- A start in course: warm or cold, what began it, and when. -/
structure StartInfo where
  warm : Bool
  cause : StartCause
  since : Nat
deriving DecidableEq, Repr

/-- Whether the part has main supply, and whether a start is in course. -/
inductive Power where
  | off
  | starting (i : StartInfo)
  | running
deriving DecidableEq, Repr

/-! ### The machine -/

/-- The state of the L84. -/
structure State where
  /-- The commands that wait, first in, first out. -/
  pending : List Instr
  /-- What waits on the wires, first in, first out (notes/assumptions 5). -/
  arrivals : List Arrival
  /-- The time, in the 10 ms units of the part's timers. -/
  now : Nat
  power : Power
  /-- The standby monitor mark (R196). -/
  standby : Bool
  linkRate : LinkRate
  lineRate : LineRate
  /-- The office clock (R197). -/
  clock : Stamp
  /-- When the clock last advanced or was last set (R197). -/
  clockSince : Nat
  fare : FareUnit
  /-- The active jobs in acceptance order (R28). -/
  jobs : List Job
  /-- The exception list in creation order (R63). -/
  exceptions : List ExcEntry
  magazines : PerPrinter (PerStock Magazine)
  stock : PerStock StockSettings
  printers : PerPrinter PrinterRec
  routes : PerWindow Route
  lines : PerPrinter LineRec
  /-- The printer whose turn comes next, and the turn under way (R92). -/
  rotation : Printer
  turn : Option Turn
  /-- The bytes heard so far in the reply window of the turn (R91, R93). -/
  heard : List RxByte
  faults : FaultLog
  windows : PerWindow WindowRec
  /-- The windows in LIST_WAIT in the order they entered it (R156). -/
  waitOrder : List Window
  tolerance : PerTender Tolerance
  /-- The cash-up list in completion order (R175). -/
  cashUps : List CashUp
  voidPeriod : Nat
  links : PerLink LinkRec
  cursor : Cursor
deriving DecidableEq, Repr

/-- The reasons a step could fault. The L84 has no machine fault: every request is answered, and every printer fault
becomes a fault record in `State.faults`. -/
inductive Fault where
deriving DecidableEq, Repr

/-- The reasons a step is refused. -/
inductive Refusal where
  /-- Raised by `exec` for a command that has no meaning yet, by its mnemonic. Safe: the run stops. -/
  | notModelled (mnemonic : String)
deriving DecidableEq, Repr

/-- A link after a start, with its terminal's ready input (R190). -/
def LinkRec.cleared (ready : Bool) : LinkRec := ⟨[], none, .reply, ready, false, []⟩

/-- The part as a COLD START request leaves it (R1, R44, R68, R88, R108, R145, R146, R164, R169, R178, R186, R190), with
the clock of a part never set. Reset values the manual does not state: notes/assumptions 1 and 2. -/
def State.delivered : State where
  pending := []
  arrivals := []
  now := 0
  power := .running
  standby := true
  linkRate := .b9600
  lineRate := .b19200
  clock := ⟨0, 0, true⟩
  clockSince := 0
  fare := ⟨Vector.replicate 32 .plain, Vector.replicate 32 .plain, .zero⟩
  jobs := []
  exceptions := []
  magazines := ⟨⟨.cleared, .cleared⟩, ⟨.cleared, .cleared⟩, ⟨.cleared, .cleared⟩, ⟨.cleared, .cleared⟩⟩
  stock := ⟨⟨100, none, 20, 0, 0⟩, ⟨50, none, 20, 0, 0⟩⟩
  printers := ⟨.cleared, .cleared, .cleared, .cleared⟩
  routes := ⟨⟨.p1, some .p2⟩, ⟨.p1, some .p2⟩, ⟨.p2, some .p1⟩, ⟨.p3, some .p4⟩, ⟨.p4, some .p3⟩, ⟨.p4, some .p3⟩⟩
  lines := ⟨.cleared, .cleared, .cleared, .cleared⟩
  rotation := .p1
  turn := none
  heard := []
  faults := ⟨[], 5, false, 0⟩
  windows := ⟨.cleared, .cleared, .cleared, .cleared, .cleared, .cleared⟩
  waitOrder := []
  tolerance := ⟨⟨-200, 200, true⟩, ⟨0, 0, false⟩, ⟨0, 0, false⟩, ⟨0, 0, true⟩⟩
  cashUps := []
  voidPeriod := 10
  links := ⟨⟨.cleared true, .cleared true, .cleared true, .cleared true, .cleared true, .cleared true⟩, .cleared true⟩
  cursor := .cleared

/-- The RETENTION_LOST record of a cold start at power-on: record 0, OPEN, with an empty snapshot (R143). -/
def FaultRecord.retentionLost (c : Stamp) : FaultRecord :=
  ⟨0, .retentionLost, none, none, none, none, none, none, none, c, .opened, false, 0, []⟩

/-- The machine right after reset: a cold start at power-on with the standby monitor mark clear has just completed
(R143, R145, R196, R197, R199). -/
def State.reset : State :=
  { State.delivered with faults := ⟨[.retentionLost ⟨0, 0, true⟩], 5, false, 1⟩ }

end Sys2Proof.Machine
end

