-- ==== Sys2Proof/Machine/Operands.lean ====
section
/-! DEFINITION. Every operand form: the codes of the fields (R191, R194), sets of marks (R184), absent optional fields
(R184), signed amounts, clamping, and the numbers and kind codes of requests (R181). A code that names nothing is
`none`, which the owning rule refuses BAD_VALUE. -/

namespace Sys2Proof.Machine

/-! ### Codes (R191, R194) -/

/-- A window number, 1 to 6. -/
def windowOf (b : Byte) : Option Window :=
  match b.toNat with
  | 1 => some .w1 | 2 => some .w2 | 3 => some .w3 | 4 => some .w4 | 5 => some .w5 | 6 => some .w6 | _ => none

/-- A printer number, 1 to 4. -/
def printerOf (b : Byte) : Option Printer :=
  match b.toNat with
  | 1 => some .p1 | 2 => some .p2 | 3 => some .p3 | 4 => some .p4 | _ => none

/-- A magazine code: 1 1T, 2 1C, 3 2T to 8 4C. -/
def magOf (b : Byte) : Option MagId :=
  match b.toNat with
  | 1 => some ⟨.p1, .ticket⟩ | 2 => some ⟨.p1, .coupon⟩ | 3 => some ⟨.p2, .ticket⟩ | 4 => some ⟨.p2, .coupon⟩
  | 5 => some ⟨.p3, .ticket⟩ | 6 => some ⟨.p3, .coupon⟩ | 7 => some ⟨.p4, .ticket⟩ | 8 => some ⟨.p4, .coupon⟩
  | _ => none

/-- A stock type code: 1 TICKET, 2 COUPON. -/
def stockOf (b : Byte) : Option Stock :=
  match b.toNat with
  | 1 => some .ticket | 2 => some .coupon | _ => none

/-- A tender code: 1 CASH, 2 CARD, 3 WARRANT, 4 VOUCHER. -/
def tenderOf (b : Byte) : Option Tender :=
  match b.toNat with
  | 1 => some .cash | 2 => some .card | 3 => some .warrant | 4 => some .voucher | _ => none

/-- A fare class code: 1 FIRST, 2 STANDARD. -/
def fareClassOf (b : Byte) : Option FareClass :=
  match b.toNat with
  | 1 => some .first | 2 => some .standard | _ => none

/-- A rounding mode code: 1 NEAREST, 2 DOWN, 3 UP, 4 FIVE. -/
def roundingOf (b : Byte) : Option Rounding :=
  match b.toNat with
  | 1 => some .nearest | 2 => some .down | 3 => some .up | 4 => some .five | _ => none

/-- A page number, 0 or 1. -/
def pageOf (b : Byte) : Option Page :=
  match b.toNat with
  | 0 => some .zero | 1 => some .one | _ => none

/-- A mark carried on its own: 0 absent, 1 present. -/
def markOf (b : Byte) : Option Bool :=
  match b.toNat with
  | 0 => some false | 1 => some true | _ => none

/-- A RESOLVE resolution: 1 ISSUED, 2 SPOILED. -/
def resolutionOf (b : Byte) : Option Resolution :=
  match b.toNat with
  | 1 => some .issued | 2 => some .spoiled | _ => none

/-- A LATCH part: 1 TALLIES, 2 STATE, 3 BOTH. -/
def latchPartOf (b : Byte) : Option LatchPart :=
  match b.toNat with
  | 1 => some .tallies | 2 => some .state | 3 => some .both | _ => none

/-- A cursor mode: 1 SEQUENTIAL, 2 RANDOM. -/
def cursorModeOf (b : Byte) : Option CursorMode :=
  match b.toNat with
  | 1 => some .sequential | 2 => some .random | _ => none

/-- The modes of ACKNOWLEDGE (R141). -/
inductive AckMode where
  | single | upTo
deriving DecidableEq, Repr

/-- An ACKNOWLEDGE mode: 1 SINGLE, 2 UP_TO. -/
def ackModeOf (b : Byte) : Option AckMode :=
  match b.toNat with
  | 1 => some .single | 2 => some .upTo | _ => none

/-- The modes of COLLECT (R176). -/
inductive CollectMode where
  | oldest | named
deriving DecidableEq, Repr

/-- A COLLECT mode: 1 OLDEST, 2 NAMED. -/
def collectModeOf (b : Byte) : Option CollectMode :=
  match b.toNat with
  | 1 => some .oldest | 2 => some .named | _ => none

/-- A cursor list code with its parameter (R186). -/
def cursorListOf (list param : Byte) : Option CursorList :=
  match list.toNat, param.toNat with
  | 1, 0 => some .faultLog
  | 2, 0 => some .exceptions
  | 3, 0 => some .cashUp
  | 4, 0 => some .jobs
  | 5, _ => (windowOf param).map .recent
  | 6, _ => (printerOf param).map .trace
  | 7, _ => (pageOf param).map .discounts
  | _, _ => none

/-! ### Sets of marks (R184) -/

/-- A window flag set: bits 0 to 8; `none` when any of bits 9 to 15 is set (R184). -/
def flagSetOf (f : Half) : Option (BitVec 9) := if f.toNat < 512 then some (f.setWidth 9) else none

/-- A set of windows: bits 0 to 5 for windows 1 to 6; `none` when a bit names no window (R161, R184). That a
LATCH carries its windows so, and that its reply lists them by window number, are the model's choice (notes/assumptions
16). -/
def windowSetOf (b : Byte) : Option (List Window) :=
  if b.toNat < 64 then
    some (([(Window.w1, 0), (.w2, 1), (.w3, 2), (.w4, 3), (.w5, 4), (.w6, 5)].filter fun x => b.getLsbD x.2).map (·.1))
  else none

/-! ### Absent optional fields and signed amounts (R184) -/

/-- An optional field: absent when every bit is set (R184). -/
def present (v : BitVec n) : Option Nat := if v = BitVec.allOnes n then none else some v.toNat

/-- An optional signed amount: absent when it is the most negative value (R184). -/
def presentSigned (v : BitVec n) : Option Int := if v = BitVec.intMin n then none else some v.toInt

/-- The seat reference of an ISSUE: absent when the coach letter is 0 (R191). -/
def seatRef (r : IssueReq) : Option Seat := if r.coach = 0 then none else some ⟨r.coach, r.seat⟩

/-- The supplement of an ISSUE: 16,777,215 for absent (R191). -/
def supplementOf (r : IssueReq) : Option Nat := present r.supplement

/-! ### Clamping (Values outside their range) -/

/-- A configuration quantity clamped to a range: the nearest end (00_scope). -/
def clamp (low high v : Nat) : Nat := max low (min high v)

/-- A signed quantity clamped to a range. -/
def clampInt (low high v : Int) : Int := max low (min high v)

/-! ### Event kinds of a STATUS reply (R97) -/

/-- A typed printer event (R97). -/
inductive Event where
  | fed (t : Tag) (sighted : Option Nat)
  | printed (t : Tag)
  | ejected (t : Tag)
  | fault (k : FaultKind) (t : Option Tag)
  | magOpen (x : Stock)
  | magClosed (x : Stock) (sighted : Option Nat)
deriving DecidableEq, Repr

/-- A fault kind code: 1 FEED_JAM, 2 EXIT_JAM, 3 HEAD_FAULT, 4 COVER_OPEN. -/
def faultKindOf (b : Byte) : Option FaultKind :=
  match b.toNat with
  | 1 => some .feedJam | 2 => some .exitJam | 3 => some .headFault | 4 => some .coverOpen | _ => none

/-- The tag of an event: `some none` for no tag, `none` for a window that is neither 0 nor 1 to 6, which the layout
does not give (R97; notes/assumptions 12). -/
def eventTag (e : RawEvent) : Option (Option Tag) :=
  if e.tagWindow = 0 then some none
  else (windowOf e.tagWindow).map fun w => some ⟨w, e.tagJob⟩

/-- The serial of an event: `some none` for the value for none, `none` above 999,999 (R97). -/
def eventSerial (e : RawEvent) : Option (Option Nat) :=
  if e.serial = BitVec.allOnes 24 then some none
  else if e.serial.toNat ≤ Config.maxSerial then some (some e.serial.toNat) else none

/-- An event of the required form, typed (R97). -/
def typeEvent (e : RawEvent) : Option (EventNo × Event) :=
  if 15 < e.num.toNat then none
  else
    match eventTag e, eventSerial e with
    | some t, some x =>
      (match e.kind.toNat, t with
      | 1, some t => if e.qual = 0 then some (Event.fed t x) else none
      | 2, some t => if e.qual = 0 then some (Event.printed t) else none
      | 3, some t => if e.qual = 0 then some (Event.ejected t) else none
      | 4, t => (faultKindOf e.qual).map fun k => Event.fault k t
      | 5, none => (stockOf e.qual).map Event.magOpen
      | 6, none => (stockOf e.qual).map fun k => Event.magClosed k x
      | _, _ => none).map fun v => (e.num.setWidth 4, v)
    | _, _ => none

/-- A STATUS reply of the required form, typed (R97). -/
structure Status where
  cover : Bool
  latched : Option FaultKind
  emptyTicket : Bool
  emptyCoupon : Bool
  newest : EventNo
  events : List (EventNo × Event)
deriving DecidableEq, Repr

/-- Type every event of a list; `none` if one is not of the required form. -/
def typedEvents : List RawEvent → Option (List (EventNo × Event))
  | [] => some []
  | e :: es =>
    match typeEvent e, typedEvents es with
    | some v, some vs => some (v :: vs)
    | _, _ => none

/-- The latched fault kind of a reply: `some none` when bit 3 is clear and the kind 0, the kind 1 to 3 when bit 3 is
set, `none` otherwise (R97). -/
def latchedKind (r : StatusReply) : Option (Option FaultKind) :=
  if r.marks.getLsbD 3 then
    match r.latched.toNat with
    | 1 => some (some .feedJam) | 2 => some (some .exitJam) | 3 => some (some .headFault) | _ => none
  else if r.latched = 0 then some none else none

/-- A STATUS reply judged by R97: `none` makes the turn a FORM miss. -/
def typeReply (r : StatusReply) : Option Status :=
  if 4 < r.events.length ∨ 15 < r.newest.toNat then none
  else
    match latchedKind r, typedEvents r.events with
    | some l, some es =>
      some ⟨r.marks.getLsbD 0, l, r.marks.getLsbD 6, r.marks.getLsbD 7, r.newest.setWidth 4, es⟩
    | _, _ => none

/-! ### Numbers of windows, printers and magazines, and request kinds -/

def windowCode : Window → Byte
  | .w1 => 1 | .w2 => 2 | .w3 => 3 | .w4 => 4 | .w5 => 5 | .w6 => 6

def printerCode : Printer → Byte
  | .p1 => 1 | .p2 => 2 | .p3 => 3 | .p4 => 4

/-- The link a request arrives on and its kind code; `none` for a command that is no request (R181). -/
def requestKind : Instr → Option (Link × Byte)
  | .issue w _ => some (.window w, 1)
  | .cancel w _ => some (.window w, 2)
  | .queryJob w _ => some (.window w, 3)
  | .void w _ => some (.window w, 4)
  | .clearPrinter w _ => some (.window w, 5)
  | .openShift w _ _ => some (.window w, 6)
  | .closeShift w => some (.window w, 7)
  | .declare w _ _ => some (.window w, 8)
  | .declareEnd w => some (.window w, 9)
  | .windowStatus w => some (.window w, 10)
  | .officeStatus _ _ => some (.office, 10)
  | .setClock _ _ => some (.office, 11)
  | .restart => some (.office, 12)
  | .coldStart => some (.office, 13)
  | .select _ _ _ _ => some (.office, 16)
  | .read => some (.office, 17)
  | .writeDiscount _ _ _ _ _ _ => some (.office, 20)
  | .switchPage => some (.office, 21)
  | .flushWindow _ => some (.office, 24)
  | .resolve _ _ _ => some (.office, 25)
  | .resolveWindow _ => some (.office, 26)
  | .setVoidPeriod _ => some (.office, 27)
  | .loadPack _ _ _ => some (.office, 30)
  | .unload _ => some (.office, 31)
  | .hold _ => some (.office, 32)
  | .reinstate _ => some (.office, 33)
  | .setStock _ _ _ => some (.office, 34)
  | .setPrinter _ _ _ _ => some (.office, 38)
  | .setRoute _ _ _ => some (.office, 39)
  | .withdraw _ => some (.office, 40)
  | .returnPrinter _ => some (.office, 41)
  | .flushPrinter _ => some (.office, 42)
  | .setLead _ => some (.office, 44)
  | .acknowledge _ _ => some (.office, 45)
  | .clearFlags _ _ => some (.office, 48)
  | .setFlags _ _ => some (.office, 49)
  | .toggleFlags _ _ => some (.office, 50)
  | .testFlags _ _ => some (.office, 51)
  | .setLimit _ _ => some (.office, 52)
  | .forceClose _ => some (.office, 53)
  | .latch _ _ => some (.office, 54)
  | .readLatched _ => some (.office, 55)
  | .setTolerance _ _ _ _ => some (.office, 58)
  | .collect _ _ => some (.office, 59)
  | .release _ _ => some (.office, 60)
  | .unknownKind _ _ | .line _ _ | .overrun _ | .gapDiscard _ | .requestDuringStart _ _ | .transmitComplete _
  | .linkReadyAsserted _ | .readyInputFalls _ | .poll | .print | .clear | .goodReply _ | .miss _
  | .auditCounterZero _ | .stageExpiry _ | .pacingWaitExpiry _ | .clockAdvance | .powerOn _ | .mainSupplyLoss
  | .retentionSupplyLow | .startComplete => none

end Sys2Proof.Machine
end

