-- ==== Sys2Proof/Machine/Ops.lean ====
section
/-! DEFINITION. The named operations on the state: one accessor and one update for each kind of record, the acceptance
order, the reservations and free count, the loads, stamps, trace entries, fault records and notices. -/

namespace Sys2Proof.Machine

/-! ### Reading and writing one item of a collection -/

def PerWindow.get (x : PerWindow α) : Window → α
  | .w1 => x.w1 | .w2 => x.w2 | .w3 => x.w3 | .w4 => x.w4 | .w5 => x.w5 | .w6 => x.w6

def PerWindow.set (x : PerWindow α) (w : Window) (v : α) : PerWindow α :=
  match w with
  | .w1 => { x with w1 := v } | .w2 => { x with w2 := v } | .w3 => { x with w3 := v }
  | .w4 => { x with w4 := v } | .w5 => { x with w5 := v } | .w6 => { x with w6 := v }

def PerPrinter.get (x : PerPrinter α) : Printer → α
  | .p1 => x.p1 | .p2 => x.p2 | .p3 => x.p3 | .p4 => x.p4

def PerPrinter.set (x : PerPrinter α) (p : Printer) (v : α) : PerPrinter α :=
  match p with
  | .p1 => { x with p1 := v } | .p2 => { x with p2 := v } | .p3 => { x with p3 := v } | .p4 => { x with p4 := v }

def PerStock.get (x : PerStock α) : Stock → α
  | .ticket => x.ticket | .coupon => x.coupon

def PerStock.set (x : PerStock α) (k : Stock) (v : α) : PerStock α :=
  match k with
  | .ticket => { x with ticket := v } | .coupon => { x with coupon := v }

def PerTender.get (x : PerTender α) : Tender → α
  | .cash => x.cash | .card => x.card | .warrant => x.warrant | .voucher => x.voucher

def PerTender.set (x : PerTender α) (t : Tender) (v : α) : PerTender α :=
  match t with
  | .cash => { x with cash := v } | .card => { x with card := v }
  | .warrant => { x with warrant := v } | .voucher => { x with voucher := v }

def PerLink.get (x : PerLink α) : Link → α
  | .window w => x.window.get w | .office => x.office

def PerLink.set (x : PerLink α) (l : Link) (v : α) : PerLink α :=
  match l with
  | .window w => { x with window := x.window.set w v } | .office => { x with office := v }

def PerWindow.map (f : α → β) (x : PerWindow α) : PerWindow β :=
  ⟨f x.w1, f x.w2, f x.w3, f x.w4, f x.w5, f x.w6⟩

def PerPrinter.map (f : α → β) (x : PerPrinter α) : PerPrinter β := ⟨f x.p1, f x.p2, f x.p3, f x.p4⟩

def PerStock.map (f : α → β) (x : PerStock α) : PerStock β := ⟨f x.ticket, f x.coupon⟩

def PerTender.map (f : α → β) (x : PerTender α) : PerTender β := ⟨f x.cash, f x.card, f x.warrant, f x.voucher⟩

/-- The windows, printers, stock types and magazines in their order. -/
def allWindows : List Window := [.w1, .w2, .w3, .w4, .w5, .w6]
def allPrinters : List Printer := [.p1, .p2, .p3, .p4]
def allStocks : List Stock := [.ticket, .coupon]
def allMags : List MagId := allPrinters.flatMap fun p => allStocks.map fun k => ⟨p, k⟩

/-- Whether a reference is a carried notice (R41). -/
def NoticeRef.isCarried (r : NoticeRef) : Bool := r.target = .carried

/-- Whether a job in this state holds a reservation (R64). -/
def JobState.reserved : JobState → Bool
  | .feeding | .printing | .delivering => true
  | .queued | .staged | .inDoubt => false

namespace State

def window (s : State) (w : Window) : WindowRec := s.windows.get w
def shift (s : State) (w : Window) : ShiftRec := (s.windows.get w).shift
def printer (s : State) (p : Printer) : PrinterRec := s.printers.get p
def lineRec (s : State) (p : Printer) : LineRec := s.lines.get p
def mag (s : State) (m : MagId) : Magazine := (s.magazines.get m.printer).get m.stock
def link (s : State) (l : Link) : LinkRec := s.links.get l

def modWindow (s : State) (w : Window) (f : WindowRec → WindowRec) : State :=
  { s with windows := s.windows.set w (f (s.windows.get w)) }
def modShift (s : State) (w : Window) (f : ShiftRec → ShiftRec) : State :=
  s.modWindow w fun r => { r with shift := f r.shift }
def modPrinter (s : State) (p : Printer) (f : PrinterRec → PrinterRec) : State :=
  { s with printers := s.printers.set p (f (s.printers.get p)) }
def modLine (s : State) (p : Printer) (f : LineRec → LineRec) : State :=
  { s with lines := s.lines.set p (f (s.lines.get p)) }
def modMag (s : State) (m : MagId) (f : Magazine → Magazine) : State :=
  { s with magazines := s.magazines.set m.printer ((s.magazines.get m.printer).set m.stock (f (s.mag m))) }
def modStock (s : State) (k : Stock) (f : StockSettings → StockSettings) : State :=
  { s with stock := s.stock.set k (f (s.stock.get k)) }
def modLink (s : State) (l : Link) (f : LinkRec → LinkRec) : State :=
  { s with links := s.links.set l (f (s.links.get l)) }

/-! ### The job table (R23 to R30) -/

/-- The active job of a tag. -/
def findJob (s : State) (t : Tag) : Option Job := s.jobs.find? (·.tag = t)

/-- Change the record of an active job; its place in the acceptance order stays (R28). -/
def modJob (s : State) (t : Tag) (f : Job → Job) : State :=
  { s with jobs := s.jobs.map fun j => if j.tag = t then f j else j }

/-- Take a job out of the acceptance order (R28). -/
def dropJob (s : State) (t : Tag) : State := { s with jobs := s.jobs.filter (·.tag ≠ t) }

/-- The number of a window's active jobs. -/
def activeJobs (s : State) (w : Window) : Nat := s.jobs.countP (·.tag.window = w)

/-- The number of a window's carried notices (R41). -/
def carried (s : State) (w : Window) : Nat := (s.window w).notices.countP (·.isCarried)

/-- A window's load (R27). -/
def load (s : State) (w : Window) : Nat := s.activeJobs w + s.carried w

/-! ### Reservations and the free count (R64) -/

/-- The reservations: the jobs in FEEDING, PRINTING or DELIVERING (R64). -/
def reservations (s : State) : Nat := s.jobs.countP (·.state.reserved)

/-- The free count of the exception list (R64). -/
def free (s : State) : Nat := Config.maxExceptions - s.exceptions.length - s.reservations

end State

end Sys2Proof.Machine
end

