-- ==== Sys2Proof/Machine/Links.lean ====
section
/-! DEFINITION. The link interface (R179 to R185): owing refusals, taking a request as a held request, forming its reply
and arbitrating for each transmitter. -/

namespace Sys2Proof.Machine

/-! ### The transmitter (R42, R185) -/

/-- Whether the link's transmitter may begin a message (R179, R185). -/
def LinkRec.canBegin (r : LinkRec) : Bool := r.sending = none ∧ r.ready = true

/-- Begin the reply at the head of the reply order; the entry stays there until its last byte is sent (R182, R185). -/
def State.beginReply (s : State) (l : Link) (e : ReplyEntry) : State :=
  s.modLink l fun r => { r with sending := some (.reply e.reply), lastSent := .reply }

/-- The content of a notice, taken in the event its first byte is sent: a shift notice shows the shift record as it then
stands, with the overall result its reference holds; a job notice's content is fixed when it becomes due (R39, R157, R185,
R192; notes/assumptions 7). -/
def State.noticeNow (s : State) (w : Window) : Notice → Notice
  | .job n => .job n
  | .shift n =>
    let h := s.shift w
    .shift ⟨w, h.number, h.state, h.active, h.ended, h.forced, n.result⟩

/-- Begin the notice at the head of a window's notice list: its reference leaves the list (R42, R185). -/
def State.beginNotice (s : State) (w : Window) (n : NoticeRef) : State :=
  (s.modWindow w fun r => { r with notices := r.notices.drop 1 }).modLink (.window w) fun r =>
    { r with sending := some (.notice (s.noticeNow w n.notice)), lastSent := .notice }

/-- The notice due on a window link: none is sent while a start is in course (R185, R199). -/
def State.noticeDue (s : State) (w : Window) : Option NoticeRef :=
  if s.power = .running then (s.window w).notices.head? else none

/-- Arbitrate for the transmitter of a window link (R185). -/
def State.pumpWindow (s : State) (w : Window) : State :=
  let r := s.link (.window w)
  if s.power ≠ .off ∧ r.canBegin then
    match r.order.head?, s.noticeDue w with
    | some e, none => s.beginReply (.window w) e
    | none, some n => s.beginNotice w n
    | some e, some n =>
      match r.lastSent with
      | .reply => s.beginNotice w n
      | .notice => s.beginReply (.window w) e
    | none, none => s
  else s

/-- The transmitter of the office link, which carries no notices (R185). -/
def State.pumpOffice (s : State) : State :=
  let r := s.link .office
  if s.power ≠ .off ∧ r.canBegin then
    match r.order.head? with
    | some e => s.beginReply .office e
    | none => s
  else s

/-- The transmitter of a link begins what R185 gives, if it may. -/
def State.pump (s : State) (l : Link) : State :=
  match l with
  | .window w => s.pumpWindow w
  | .office => s.pumpOffice

/-- The transmitters of all window links, after an event that may have made notices due. -/
def State.pumpWindows (s : State) : State := allWindows.foldl State.pumpWindow s

/-! ### The reply order (R182, R184) -/

/-- The number of entries of a kind in a reply order (R182). -/
def LinkRec.countKind (r : LinkRec) (k : EntryKind) : Nat := r.order.countP (·.kind = k)

/-- An entry joins the end of a link's reply order, and the transmitter is judged (R182, R185). -/
def State.enqueue (s : State) (l : Link) (e : ReplyEntry) : State :=
  (s.modLink l fun r => { r with order := r.order ++ [e] }).pump l

/-- A LINE or OVERRUN refusal is owed, unless four already stand (R182). -/
def State.owe (s : State) (l : Link) (c : Code) : State :=
  if (s.link l).countKind .owed < Config.maxOwed then s.enqueue l ⟨.owed, .refused 0 c⟩ else s

/-- What taking a request gives: the state it leaves and its reply, which a RESTART or COLD START that begins a start
does not form yet (R183, R198). -/
structure Taken where
  state : State
  reply : Option Reply
deriving DecidableEq, Repr

/-- A request refused: no effect, and its refusal code (R184). -/
def State.refuse (s : State) (kind : Byte) (c : Code) : Taken := ⟨s, some (.refused kind c)⟩

/-- A request accepted, with its reply's kind 128 above its own (R184). -/
def State.accept (s : State) (kind : Byte) (b : Body) : Taken := ⟨s, some (.accepted (128 + kind) b)⟩

/-- A good message completes on a link (R182, R183, R199). Without main supply, or while the receiver discards until a
gap, nothing is received. With two held requests an OVERRUN refusal is owed. While a start is in course the reply is the
refusal WRONG_STATE. Otherwise the request is taken at once and its reply joins the reply order. -/
def State.receive (s : State) (l : Link) (kind : Byte) (take : State → Taken) : State :=
  if s.power = .off ∨ (s.link l).discarding then s
  else if Config.maxHeld ≤ (s.link l).countKind .held then s.owe l .overrun
  else match s.power with
    | .running =>
      let t := take s
      match t.reply with
      | some r => t.state.enqueue l ⟨.held, r⟩
      | none => t.state
    | .off | .starting _ => s.enqueue l ⟨.held, .refused kind .wrongState⟩

end Sys2Proof.Machine
end

