-- ==== Sys2Proof/Machine/Flags.lean ====
section
/-! DEFINITION. The window flag set (R146 to R148, R184) and the queue flags (R30). -/

namespace Sys2Proof.Machine

/-! ### The nine flags of a window profile, by their bits (R146, R184) -/

def Profile.coupon (f : Profile) : Bool := f.flags.getLsbD 0
def Profile.void (f : Profile) : Bool := f.flags.getLsbD 1
def Profile.restricted (f : Profile) : Bool := f.flags.getLsbD 2
def Profile.clearPrinter (f : Profile) : Bool := f.flags.getLsbD 3
def Profile.divert (f : Profile) : Bool := f.flags.getLsbD 4
def Profile.maskRnd (f : Profile) : Bool := f.flags.getLsbD 5
def Profile.maskMin (f : Profile) : Bool := f.flags.getLsbD 6
def Profile.maskBig (f : Profile) : Bool := f.flags.getLsbD 7
def Profile.maskZero (f : Profile) : Bool := f.flags.getLsbD 8

/-- CLEAR FLAGS makes the named flags absent (R147). -/
def clearBits (f named : BitVec 9) : BitVec 9 := f &&& ~~~named
/-- SET FLAGS makes the named flags present (R147). -/
def setBits (f named : BitVec 9) : BitVec 9 := f ||| named
/-- TOGGLE FLAGS inverts the named flags (R147). -/
def toggleBits (f named : BitVec 9) : BitVec 9 := f ^^^ named

/-- TEST FLAGS: ALL, NONE or SOME of the named flags are present (R148). -/
def testBits (f named : BitVec 9) : TestResult :=
  if f &&& named = named then .all else if f &&& named = 0 then .none else .some

/-- The queue flags for a number of active jobs (R30). -/
def queueFlags (n : Nat) : QueueFlags :=
  ⟨n = 0, decide (Config.halfJobs ≤ n), decide (Config.maxJobs ≤ n)⟩

/-- The queue flags of the job table (R30). -/
def State.queueFlags (s : State) : QueueFlags := Machine.queueFlags s.jobs.length

end Sys2Proof.Machine
end

