-- ==== Sys2Proof/Machine/Notices.lean ====
section
/-! DEFINITION. The notice lists: placing, replacing and dropping references (R38 to R42), the recent issue lists
(R36), and the shift notice (R157). -/

namespace Sys2Proof.Machine

/-- A notice about a record: it replaces the notice of the reference that names the record, in its place, or joins the
end of the list; the reference then names `new` (R38, R40, R41). -/
def placeNotice (l : List NoticeRef) (old new : RefTarget) (n : Notice) : List NoticeRef :=
  if l.any (·.target = old) then l.map fun r => if r.target = old then ⟨new, n⟩ else r
  else l ++ [⟨new, n⟩]

/-- Drop unsent the reference that names a record (R42). -/
def dropRef (l : List NoticeRef) (t : RefTarget) : List NoticeRef := l.filter (·.target ≠ t)

/-- Whether a reference names a recent entry. -/
def NoticeRef.isRecent (r : NoticeRef) : Bool :=
  match r.target with
  | .recent _ => true
  | .job _ | .shift | .carried => false

def State.notify (s : State) (w : Window) (old new : RefTarget) (n : Notice) : State :=
  s.modWindow w fun r => { r with notices := placeNotice r.notices old new n }

/-- The notice of a job. -/
def Job.notice (j : Job) (k : JobNoticeKind) (serial : Option Nat) : Notice := .job ⟨k, j.tag, j.stock, j.total, serial⟩

/-- The shift notice of a window, with the overall result of a compute or an admission (R157). -/
def State.notifyShift (s : State) (w : Window) (result : Option Overall) : State :=
  let h := s.shift w
  s.notify w .shift .shift (.shift ⟨w, h.number, h.state, h.active, h.ended, h.forced, result⟩)

/-- The entry of an issued job (R36). -/
def Job.recentEntry (j : Job) (c : Stamp) : RecentEntry :=
  ⟨j.tag, j.stock, j.serial.getD 0, j.total, j.tender, c, false⟩

/-- Append an issued job to its window's recent issue list. A fifth entry removes the oldest, whose reference is
dropped unsent (R36, R42). -/
def WindowRec.addRecent (r : WindowRec) (e : RecentEntry) : WindowRec :=
  if r.recent.length < Config.maxRecent then { r with recent := r.recent ++ [e] }
  else
    { r with
      recent := r.recent.drop 1 ++ [e]
      notices := r.recent.head?.elim r.notices fun o => dropRef r.notices (.recent o.tag.job) }

end Sys2Proof.Machine
end

