-- ==== Sys2Proof/Machine/CashUp.lean ====
section
/-! DEFINITION. Tallies and their saturation (R158, R159), the computation of a cash-up (R170 to R173), its filing or
wait (R156, R174), admission (R177), and a job's departure from the table with the end of a CLOSING wait (R32, R155). -/

namespace Sys2Proof.Machine

/-! ### Tallies (R158, R159) -/

/-- A tally raised by an amount, held at its limit (R159). -/
def raise (v n limit : Nat) : Nat := min (v + n) limit

/-- Whether a raise would pass the limit (R159). -/
def passes (v n limit : Nat) : Bool := limit < v + n

/-- The tallies of a shift after an issue (R158). -/
def Tallies.issue (t : Tallies) (tender : Tender) (stock : Stock) (total : Nat) (referred : Bool) : Tallies :=
  let k := t.tender.get tender
  { t with
    tender := t.tender.set tender ⟨raise k.count 1 Config.maxCount, raise k.net total Config.maxAmount⟩
    stock := t.stock.set stock (raise (t.stock.get stock) 1 Config.maxCount)
    referred := if referred then raise t.referred 1 Config.maxCount else t.referred }

/-- Whether an issue saturates a tally (R159). -/
def Tallies.issueSaturates (t : Tallies) (tender : Tender) (stock : Stock) (total : Nat) (referred : Bool) : Bool :=
  let k := t.tender.get tender
  passes k.count 1 Config.maxCount || passes k.net total Config.maxAmount ||
    passes (t.stock.get stock) 1 Config.maxCount || (referred && passes t.referred 1 Config.maxCount)

/-- Whether a net amount is held: it stands at its limit while SAT is in the sticky set (R159). -/
def amountHeld (k : TenderTally) (sticky : CondSet) : Bool := k.net = Config.maxAmount ∧ sticky.sat

/-- The tallies of a shift after a void (R126, R158). -/
def Tallies.void (t : Tallies) (tender : Tender) (total : Nat) (sticky : CondSet) : Tallies :=
  let k := t.tender.get tender
  { t with
    tender := t.tender.set tender (if amountHeld k sticky then k else { k with net := k.net - total })
    voidCount := raise t.voidCount 1 Config.maxCount
    voidAmount := raise t.voidAmount total Config.maxAmount }

/-- Whether a void saturates a tally (R159). -/
def Tallies.voidSaturates (t : Tallies) (total : Nat) : Bool :=
  passes t.voidCount 1 Config.maxCount || passes t.voidAmount total Config.maxAmount

/-- A shift record after the issue of a job (R158, R159). -/
def ShiftRec.issue (h : ShiftRec) (j : Job) : ShiftRec :=
  { h with
    tallies := h.tallies.issue j.tender j.stock j.total j.referred
    sticky := { h.sticky with
      sat := h.sticky.sat || h.tallies.issueSaturates j.tender j.stock j.total j.referred } }

/-- A shift record after a void (R126, R159). -/
def ShiftRec.void (h : ShiftRec) (tender : Tender) (total : Nat) : ShiftRec :=
  { h with
    tallies := h.tallies.void tender total h.sticky
    sticky := { h.sticky with sat := h.sticky.sat || h.tallies.voidSaturates total } }

/-! ### The computation (R170 to R173) -/

/-- Whether a tender is held at a cash-up (R171). -/
def tenderHeld (k : TenderTally) (sticky : CondSet) : Bool :=
  sticky.sat ∧ (k.net = Config.maxAmount ∨ k.count = Config.maxCount)

/-- The result of a tender with a variance (R171). -/
def judgeVariance (v : Int) (tol : Tolerance) : TenderResult :=
  if v < tol.low then .short else if tol.high < v then .over else .balanced

/-- One tender of a cash-up; the float is added to the expected amount of CASH (R170, R171). -/
def cashUpTender (k : TenderTally) (float : Nat) (declared : Option Nat) (sticky : CondSet) (tol : Tolerance) :
    CashUpTender :=
  let expected := k.net + float
  let heldT := tenderHeld k sticky
  let variance : Option Int := if heldT then none else declared.map fun d => (d : Int) - (expected : Int)
  { count := k.count, net := k.net, expected := expected, declared := declared, variance := variance
    result :=
      if heldT then .unordered
      else match variance with
        | none => if tol.required then .unordered else .notDeclared
        | some v => judgeVariance v tol }

/-- The overall result (R172). -/
def overallOf (t : PerTender CashUpTender) : Overall :=
  let has (r : TenderResult) : Bool :=
    t.cash.result = r || t.card.result = r || t.warrant.result = r || t.voucher.result = r
  if has .unordered then .unordered else if has .short then .short else if has .over then .over else .balanced

/-- The cash-up record of a shift (R173). -/
def cashUpOf (w : Window) (h : ShiftRec) (tol : PerTender Tolerance) : CashUp :=
  let one (t : Tender) (float : Nat) : CashUpTender :=
    cashUpTender (h.tallies.tender.get t) float (h.declared.get t) h.sticky (tol.get t)
  let tender : PerTender CashUpTender := ⟨one .cash h.float, one .card 0, one .warrant 0, one .voucher 0⟩
  { window := w, clerk := h.clerk, shift := h.number, openStamp := h.openStamp, closeStamp := h.closeStamp
    float := h.float, tender := tender, voidCount := h.tallies.voidCount, voidAmount := h.tallies.voidAmount
    stock := h.tallies.stock, referred := h.tallies.referred, sticky := h.sticky, overall := overallOf tender
    forced := h.forced, collected := false }

/-! ### The list (R156, R174 to R177) -/

/-- Whether a record has a window and shift number. -/
def CashUp.isOf (r : CashUp) (w : Window) (n : ShiftNo) : Bool := r.window = w ∧ r.shift = n

/-- Room for a record in the list: fewer than 12, and none of the same window and shift number (R174, R177). -/
def listRoom (l : List CashUp) (r : CashUp) : Bool :=
  l.length < Config.maxCashUps ∧ l.all fun x => !(x.isOf r.window r.shift)

/-- A shift files a record and becomes CLOSED, with its notice (R156). -/
def State.fileCashUp (s : State) (w : Window) (r : CashUp) : State :=
  ({ s with cashUps := s.cashUps ++ [r] }.modShift w fun h => { h with state := .closed, heldRecord := none })
    |>.notifyShift w (some r.overall)

/-- The compute of a shift: filed if the list has room and no shift waits, else LIST_WAIT at the end of the wait order
(R156, R174). -/
def State.compute (s : State) (w : Window) : State :=
  let r := cashUpOf w (s.shift w) s.tolerance
  if listRoom s.cashUps r && s.waitOrder.isEmpty then s.fileCashUp w r
  else
    ({ s with waitOrder := s.waitOrder ++ [w] }.modShift w fun h =>
        { h with state := .listWait, heldRecord := some r })
      |>.notifyShift w (some r.overall)

/-- Admit waiting shifts from the head of the wait order while the head's record has room (R177). The windows admitted
come back in order; `fuel` is the number of waiting shifts. -/
def State.admitWaiting : Nat → State → List Window × State
  | 0, s => ([], s)
  | fuel + 1, s =>
    match s.waitOrder with
    | [] => ([], s)
    | w :: rest =>
      match (s.shift w).heldRecord with
      | none => ([], s)
      | some r =>
        if listRoom s.cashUps r then
          let (ws, s') := admitWaiting fuel ({ s with waitOrder := rest }.fileCashUp w r)
          (w :: ws, s')
        else ([], s)

/-- The end of a CLOSING wait: with no active job the shift is computed if its declaration has ended, and is DECLARING
with a notice otherwise (R155). -/
def State.closingEnd (s : State) (w : Window) : State :=
  let h := s.shift w
  if h.state = .closing ∧ h.active = 0 then
    if h.ended then s.compute w
    else (s.modShift w fun h => { h with state := .declaring }).notifyShift w none
  else s

/-! ### Leaving the table (R32) -/

/-- Steps 1 and 2 of R32: the slot is freed and the shift's active count falls, which may end a CLOSING wait. -/
def State.leaveTable (s : State) (j : Job) : State :=
  ((s.dropJob j.tag).modShift j.tag.window fun h => { h with active := h.active - 1 }).closingEnd j.tag.window

/-- A job leaves without a notice, cancelled by its window; a reference to it would be dropped (R32, R33, R42). -/
def State.leaveSilent (s : State) (j : Job) : State :=
  (s.leaveTable j).modWindow j.tag.window fun r => { r with notices := dropRef r.notices (.job j.tag.job) }

/-- A job leaves with a carried notice (R32, R40, R41). -/
def State.leaveCarried (s : State) (j : Job) (k : JobNoticeKind) (serial : Option Nat) : State :=
  (s.leaveTable j).notify j.tag.window (.job j.tag.job) .carried (j.notice k serial)

/-- An issued job leaves for its window's recent issue list, and its notice follows it there (R32, R36, R40). -/
def State.leaveIssued (s : State) (j : Job) (k : JobNoticeKind) : State :=
  ((s.leaveTable j).modWindow j.tag.window fun r => r.addRecent (j.recentEntry s.clock))
    |>.notify j.tag.window (.job j.tag.job) (.recent j.tag.job) (j.notice k j.serial)

end Sys2Proof.Machine
end

