-- ==== Sys2Proof/Machine/Stock.lean ====
section
/-! DEFINITION. The stock register's operations (R45 to R66): the counts of a pack, sightings, draws, the audit counter,
changes of a magazine's state with the return of the staged job, exception entries and the stock-type counts. -/

namespace Sys2Proof.Machine

/-! ### Counts of a pack (R45) -/

/-- The blanks still in the magazine: last − next + 1 (R45). -/
def Pack.remaining (k : Pack) : Nat := k.last + 1 - k.next
/-- The blanks drawn: next − first (R45). -/
def Pack.drawn (k : Pack) : Nat := k.next - k.first
/-- Whether a serial lies in the pack. -/
def Pack.holds (k : Pack) (serial : Nat) : Bool := k.first ≤ serial ∧ serial ≤ k.last
/-- Whether two packs share a serial (R48). -/
def Pack.overlaps (a b : Pack) : Bool := a.first ≤ b.last ∧ b.first ≤ a.last

/-- The remaining count of a magazine, 0 when it is EMPTY. -/
def Magazine.remaining (m : Magazine) : Nat := m.pack.elim 0 Pack.remaining
/-- The next serial of a magazine. -/
def Magazine.next (m : Magazine) : Nat := m.pack.elim 0 (·.next)
/-- Whether a magazine is HELD. -/
def Magazine.isHeld (m : Magazine) : Bool :=
  match m.state with
  | .held _ => true
  | .empty | .pending | .active | .discrepant | .exhausted => false

/-- The low mark judged anew: present in a non-EMPTY magazine at or below the threshold (R62). -/
def Magazine.judgeLow (m : Magazine) (threshold : Nat) : Magazine :=
  { m with low := m.pack.isSome && decide (m.remaining ≤ threshold) }

/-- The expected sighting of a closing magazine; `none` is "no blank" (R53). -/
def Magazine.expectedSighting (m : Magazine) : Option Nat :=
  match m.pack with
  | none => none
  | some k => if m.notSighted then some k.first else if 0 < k.remaining then some k.next else none

/-- A draw: next rises, remaining falls with it, and the low mark is judged (R57, R62). -/
def Magazine.draw (m : Magazine) (threshold : Nat) : Magazine :=
  let drawn : Magazine := { m with pack := m.pack.map fun (k : Pack) => { k with next := k.next + 1 } }
  drawn.judgeLow threshold

/-- The job that held a committed place gives it up (R47). -/
def Magazine.uncommit (m : Magazine) : Magazine := { m with committed := m.committed - 1 }

/-! ### The audit counter (R60, R61) -/

/-- Whether a magazine counts: ACTIVE with a reload value above 0 (R60). -/
def counting (m : Magazine) (k : StockSettings) : Bool := m.state = .active ∧ 0 < k.reload

/-- A stock type's settings once its pending reload value, if one stands, has become its reload value (R60, R61). -/
def StockSettings.takePending (k : StockSettings) : StockSettings :=
  { k with reload := k.pendingReload.getD k.reload, pendingReload := none }

/-- What a counter reaching 0 does: the sight-due mark, the pending reload value, the reload (R60). -/
def State.auditReload (s : State) (m : MagId) : State :=
  let s := s.modStock m.stock StockSettings.takePending
  s.modMag m fun r => { r with sightDue := true, counter := (s.stock.get m.stock).reload }

/-- The audit counter's part of a draw: lowered when the magazine counts, and reloaded when it reaches 0 (R60). -/
def State.auditDraw (s : State) (m : MagId) : State :=
  let r := s.mag m
  if counting r (s.stock.get m.stock) then
    if r.counter ≤ 1 then s.auditReload m else s.modMag m fun r => { r with counter := r.counter - 1 }
  else s

/-! ### Returning a staged job, and changes of magazine state (R29, R46, R75) -/

/-- The job table sets a job QUEUED without its printer and serial (R29). -/
def State.requeue (s : State) (t : Tag) : State :=
  s.modJob t fun j => { j with state := .queued, printer := none, serial := none }

/-- A staged slot empties and its magazine's committed count falls, for a job cancelled or returned (R33, R75). -/
def State.unstage (s : State) (p : Printer) (stock : Stock) : State :=
  (s.modPrinter p fun r => { r with staged := none }).modMag ⟨p, stock⟩ Magazine.uncommit

/-- The staged job of a printer returns to the queue (R75). -/
def State.returnStaged (s : State) (p : Printer) : State :=
  match (s.printer p).staged with
  | none => s
  | some t =>
    match s.findJob t with
    | some j => (s.requeue t).unstage p j.stock
    | none => s.modPrinter p fun r => { r with staged := none }

/-- When a magazine leaves ACTIVE the job staged against it returns (R46). -/
def State.returnFrom (s : State) (m : MagId) : State :=
  match (s.printer m.printer).staged.bind s.findJob with
  | some j => if j.stock = m.stock then s.returnStaged m.printer else s
  | none => s

/-- A magazine takes a state; leaving ACTIVE returns the job staged against it (R46). -/
def State.moveMag (s : State) (m : MagId) (st : MagState) : State :=
  let was := (s.mag m).state
  let s := s.modMag m fun r => { r with state := st }
  if was = .active ∧ st ≠ .active then s.returnFrom m else s

/-! ### The exception list and the stock-type counts (R63, R65) -/

/-- An entry joins the end of the exception list (R63). -/
def State.addEntry (s : State) (e : ExcEntry) : State := { s with exceptions := s.exceptions ++ [e] }

/-- The entry of a job's blank. -/
def Job.entry (j : Job) (serial : Nat) (d : Disposition) (r : ExcReason) (sighted : Option Nat) (c : Stamp) : ExcEntry :=
  ⟨j.stock, serial, d, r, some j.tag, sighted, c⟩

/-- The spoiled count of a stock type rises by one, held at its limit (R65). -/
def State.countSpoiled (s : State) (k : Stock) : State :=
  s.modStock k fun r => { r with spoiled := raise r.spoiled 1 Config.maxStockCount }

/-- The voided count of a stock type rises by one, held at its limit (R65). -/
def State.countVoided (s : State) (k : Stock) : State :=
  s.modStock k fun r => { r with voided := raise r.voided 1 Config.maxStockCount }

/-- Whether an entry names a serial of a stock type. -/
def ExcEntry.isOf (e : ExcEntry) (k : Stock) (serial : Nat) : Bool := e.stock = k ∧ e.serial = serial

/-- The register's check of a VOID: the serial is drawn from a loaded pack and no entry names it (R66). -/
def State.voidable (s : State) (k : Stock) (serial : Nat) : Bool :=
  (allMags.any fun m => m.stock = k && (s.mag m).pack.any fun q => q.holds serial && decide (serial < q.next)) &&
    !s.exceptions.any (·.isOf k serial)

/-! ### The expected serial of an active job's blank -/

/-- Whether an UNLOAD is refused IN_USE (R49). -/
def State.magInUse (s : State) (m : MagId) (k : Pack) : Bool :=
  decide (0 < (s.mag m).committed) ||
    (s.jobs.any fun j => (j.state = .printing || j.state = .delivering) && j.stock = m.stock && j.serial.any k.holds) ||
    s.exceptions.any fun e => e.disposition = .inDoubt && e.stock = m.stock && k.holds e.serial

end Sys2Proof.Machine
end

