-- ==== Sys2Proof/Machine/Dispatcher.lean ====
section
/-! DEFINITION. The dispatcher: staging (R73 to R75), print permission (R76 to R79), the pending command (R94) and the
emptying of a current slot (R80). -/

namespace Sys2Proof.Machine

/-! ### Staging (R74, R75) -/

/-- Whether a printer is eligible for a job of a stock type (R74). -/
def State.eligible (s : State) (p : Printer) (k : Stock) : Bool :=
  let r := s.printer p
  let m := s.mag ⟨p, k⟩
  r.state = .ready ∧ r.staged = none ∧ m.state = .active ∧ m.committed < m.remaining

/-- The printer R74 chooses for a candidate: the home printer if eligible, else the alternate if there is one, the
profile holds DIVERT and it is eligible. -/
def State.chosenPrinter (s : State) (j : Job) : Option Printer :=
  let w := j.tag.window
  let r := s.routes.get w
  if s.eligible r.home j.stock then some r.home
  else match r.alternate with
    | some a => if (s.window w).profile.divert && s.eligible a j.stock then some a else none
    | none => none

/-- The first candidate in acceptance order that has a printer: a candidate is its window's oldest QUEUED job (R74).
`seen` holds the windows whose candidate has been passed. -/
def State.firstStageable (s : State) : List Window → List Job → Option (Job × Printer)
  | _, [] => none
  | seen, j :: js =>
    if j.state = .queued ∧ j.tag.window ∉ seen then
      match s.chosenPrinter j with
      | some p => some (j, p)
      | none => firstStageable s (j.tag.window :: seen) js
    else firstStageable s seen js

/-- Stage a job on a printer (R75). -/
def State.stage (s : State) (j : Job) (p : Printer) : State :=
  ((s.modJob j.tag fun j => { j with state := .staged, printer := some p }).modPrinter p fun r =>
      { r with staged := some j.tag }).modMag ⟨p, j.stock⟩ fun m => { m with committed := m.committed + 1 }

/-- Make assignments until none is possible; an opportunity makes at most four stagings (R74). The printers staged on
come back with the state. -/
def State.dispatch : Nat → State → List Printer × State
  | 0, s => ([], s)
  | fuel + 1, s =>
    match s.firstStageable [] s.jobs with
    | none => ([], s)
    | some (j, p) =>
      let (ps, s') := dispatch fuel (s.stage j p)
      (p :: ps, s')

/-! ### The pacing wait (R77) -/

/-- The pacing wait of a printer for a stock type, in units of 10 ms (R77). -/
def PrinterRec.wait (r : PrinterRec) (k : Stock) : Nat :=
  r.base * r.multiplier * Config.pacingUnit +
    (if r.lastStock.any (· ≠ k) then r.changeover * Config.pacingUnit else 0)

/-- When the pacing wait of a printer runs out for a stock type; `none` when it has run out at once (R77). -/
def PrinterRec.waitEnd (r : PrinterRec) (k : Stock) : Option Nat := r.lastOutcome.map (· + r.wait k)

/-- Whether the pacing wait has run out (R77). -/
def PrinterRec.waitOver (r : PrinterRec) (k : Stock) (now : Nat) : Bool := (r.waitEnd k).all (· ≤ now)

/-! ### Print permission (R76, R78, R79) -/

/-- Conditions 1 to 6 of R76 for a job and a printer. -/
def State.permitted (s : State) (p : Printer) (j : Job) : Bool :=
  let r := s.printer p
  r.state = .ready ∧ r.staged = some j.tag ∧ r.current = none ∧ (s.lineRec p).pendingCmd = none ∧
    (s.mag ⟨p, j.stock⟩).state = .active ∧ 1 ≤ s.free ∧ r.waitOver j.stock s.now = true

/-- The printer on which a STAGED job of this list of printers has its permission. -/
def State.permittedOn (s : State) (ps : List Printer) (j : Job) : Option Printer :=
  if j.state = .staged then
    match j.printer with
    | some p => if p ∈ ps ∧ s.permitted p j then some p else none
    | none => none
  else none

/-- The oldest STAGED job, on one of these printers, whose permission can be given (R78). -/
def State.firstPermitted (s : State) (ps : List Printer) : List Job → Option (Job × Printer)
  | [] => none
  | j :: js =>
    match s.permittedOn ps j with
    | some p => some (j, p)
    | none => firstPermitted s ps js

/-- The content of a job's PRINT (R79, R95). -/
def Job.printCmd (j : Job) (expected : Nat) (sight : Bool) : PrintCmd :=
  ⟨j.tag, j.stock, sight, expected, j.total, j.lines, j.route, j.validity, j.seat⟩

/-- Print permission: the job enters the current slot as FEEDING and a PRINT is made pending (R56, R79). -/
def State.permit (s : State) (j : Job) (p : Printer) : State :=
  let m := s.mag ⟨p, j.stock⟩
  ((s.modJob j.tag fun j => { j with state := .feeding }).modPrinter p fun r =>
      { r with staged := none, current := some ⟨j.tag, m.next, m.sightDue⟩ }).modLine p fun r =>
    { r with pendingCmd := some (.print (j.printCmd m.next m.sightDue)) }

/-- Judge permission for the staged jobs of these printers, oldest first. Each permission empties a staged slot, which
is a dispatch opportunity, and the jobs then staged are judged too (R78, R79). At most four permissions can follow one
another, one for each current slot. -/
def State.judge : Nat → List Printer → State → State
  | 0, _, s => s
  | fuel + 1, ps, s =>
    match s.firstPermitted ps s.jobs with
    | none => s
    | some (j, p) =>
      let (qs, s') := (s.permit j p).dispatch 4
      judge fuel (ps ++ qs) s'

/-- Judge permission for the staged jobs of these printers (R78). -/
def State.judgePermission (s : State) (ps : List Printer) : State := s.judge 4 ps

/-- A dispatch opportunity: the assignments, then permission for the jobs staged and for the staged jobs of `ps`
(R73, R74, R78). -/
def State.opportunity (s : State) (ps : List Printer) : State :=
  let (qs, s') := s.dispatch 4
  s'.judge 4 (ps ++ qs)

/-- Whether a job is staged against a magazine: its printer's staged job, of its stock type (R46). -/
def State.stagedAgainst (s : State) (m : MagId) : Bool :=
  ((s.printer m.printer).staged.bind s.findJob).any (·.stock = m.stock)

/-- An ACTIVE magazine takes another state. The return of a job staged against it is a dispatch opportunity; with no such
job there is none (R46, R73, R75). -/
def State.leaveActive (s : State) (m : MagId) (st : MagState) : State :=
  let returned := s.stagedAgainst m
  let s := s.moveMag m st
  if returned then s.opportunity [] else s

/-- The printers whose staged jobs an event judges: all of them when the free count rose from `before` (R78). -/
def State.judged (s : State) (before : Nat) (ps : List Printer) : List Printer :=
  if before < s.free then allPrinters else ps

/-! ### The pending command and the current slot (R80, R82, R94) -/

/-- A CLEAR is given where the return mark calls for one and the line holds no pending command (R82, R94). -/
def State.giveClear (s : State) (p : Printer) : State :=
  if (s.printer p).returnMark ∧ (s.lineRec p).pendingCmd = none then
    s.modLine p fun r => { r with pendingCmd := some .clear }
  else s

/-- The turn in progress no longer carries the pending command of this printer (R94). -/
def State.unlive (s : State) (p : Printer) : State :=
  { s with turn := s.turn.map fun u => if u.printer = p then { u with live := false } else u }

/-- The pending command becomes none, and the dispatcher gives a CLEAR where the return mark calls for one (R94). -/
def State.dropPending (s : State) (p : Printer) : State :=
  ((s.modLine p fun r => { r with pendingCmd := none }).unlive p).giveClear p

/-- A pending PRINT is discarded; a pending CLEAR stays (R94). -/
def State.discardPrint (s : State) (p : Printer) : State :=
  match (s.lineRec p).pendingCmd with
  | some (.print _) => s.dropPending p
  | some .clear | none => s

/-- The current slot of a printer empties: the stage timer stops, the time of last outcome is set, and a pending PRINT
is discarded (R80, R94, R109). -/
def State.emptyCurrent (s : State) (p : Printer) : State :=
  (s.modPrinter p fun r => { r with current := none, timer := none, lastOutcome := some s.now }).discardPrint p

end Sys2Proof.Machine
end

