-- ==== Sys2Proof/Machine/FaultLog.lean ====
section
/-! DEFINITION. Trace rings (R106, R107) and the fault log (R130 to R142): writing a trace entry, the capture of
snapshots, making room, making a record. -/

namespace Sys2Proof.Machine

/-! ### Capture (R133, R137 to R139) -/

/-- The end of a record's capture (R133). -/
def FaultRecord.endCapture (r : FaultRecord) : FaultRecord :=
  { r with state := if r.ackPending then .acknowledged else .opened, ackPending := false }

/-- A record with one more entry in its snapshot; at the capture target the capture ends (R138). -/
def FaultRecord.capture (r : FaultRecord) (e : TraceEntry) : FaultRecord :=
  let r := { r with snapshot := r.snapshot ++ [e] }
  if r.target ≤ r.snapshot.length then r.endCapture else r

/-- Whether a record is CAPTURING on this printer. -/
def FaultRecord.capturingOn (r : FaultRecord) (p : Printer) : Bool := r.state = .capturing ∧ r.printer = some p

/-- The log when a trace entry of a printer is handed to it (R138). -/
def FaultLog.hand (l : FaultLog) (p : Printer) (e : TraceEntry) : FaultLog :=
  { l with records := l.records.map fun r => if r.capturingOn p then r.capture e else r }

/-- The CAPTURING record of a printer closes short (R139). -/
def FaultLog.closeShort (l : FaultLog) (p : Printer) : FaultLog :=
  { l with records := l.records.map fun r => if r.capturingOn p then r.endCapture else r }

/-- Every CAPTURING record closes short, as at a start (R139). -/
def FaultLog.closeAll (l : FaultLog) : FaultLog :=
  { l with records := l.records.map fun r => if r.state = .capturing then r.endCapture else r }

/-! ### Making a record (R134, R135, R137) -/

/-- Room for one more record in the log (R135). -/
def FaultLog.makeRoom (l : FaultLog) : FaultLog :=
  if l.records.length < Config.maxFaults then l
  else if l.records.any (·.state = .acknowledged) then
    { l with records := l.records.eraseP (·.state = .acknowledged) }
  else { l with records := l.records.drop 1, overrun := true }

/-- Append a record, giving it the next record number (R132, R134). -/
def FaultLog.append (l : FaultLog) (r : FaultRecord) : FaultLog :=
  { l with records := l.records ++ [{ r with number := l.nextNumber }], nextNumber := l.nextNumber + 1 }

/-- The entries of a snapshot at the making of its record: the newest earlier entries up to the lead, then the cause
entry, which is the newest of the ring (R137). -/
def snapshotOf (ring : List TraceEntry) (lead : Nat) : List TraceEntry :=
  let earlier := ring.dropLast
  earlier.drop (earlier.length - lead) ++ ring.getLast?.toList

/-- The fields of a printer fault's record that follow its kind (R131). -/
structure FaultFields where
  stage : Option Stage := none
  tag : Option Tag := none
  serial : Option Nat := none
  sighted : Option Nat := none
  mag : Option MagId := none
deriving DecidableEq, Repr

/-- The record of a printer fault, with its snapshot and capture target (R134, R137). -/
def printerRecord (p : Printer) (k : RecordKind) (f : FaultFields) (ring : List TraceEntry) (lead : Nat)
    (c : Stamp) : FaultRecord :=
  let snap := snapshotOf ring lead
  let target := snap.length + (Config.maxLead - lead)
  { number := 0, kind := k, printer := some p, stage := f.stage, tag := f.tag, serial := f.serial,
    sighted := f.sighted, mag := f.mag, startCause := none, stamp := c,
    state := if target ≤ snap.length then .opened else .capturing,
    ackPending := false, target := target, snapshot := snap }

/-- The record of a warm start (R143). -/
def restartRecord (cause : StartCause) (c : Stamp) : FaultRecord :=
  ⟨0, .restart, none, none, none, none, none, none, some cause, c, .opened, false, 0, []⟩

/-- A printer fault: the earlier capture closes short, room is made, the record is appended (R134). -/
def State.printerFault (s : State) (p : Printer) (k : RecordKind) (f : FaultFields) : State :=
  let l := (s.faults.closeShort p).makeRoom
  { s with faults := l.append (printerRecord p k f (s.lineRec p).ring l.lead s.clock) }

/-! ### Trace entries (R106, R107) -/

/-- A ring with one more entry; the oldest goes when it holds 16 (R106). -/
def pushRing (ring : List TraceEntry) (e : TraceEntry) : List TraceEntry :=
  (if ring.length < Config.maxRing then ring else ring.drop 1) ++ [e]

/-- Write a trace entry of a printer and hand it to the fault log (R106, R107). -/
def State.trace (s : State) (p : Printer) (k : TraceKind) (t : Option Tag) (serial : Option Nat) : State :=
  let e : TraceEntry := ⟨k, t, serial, s.clock⟩
  let s := s.modLine p fun r => { r with ring := pushRing r.ring e }
  { s with faults := s.faults.hand p e }

/-! ### The job a fault record describes (R131) -/

/-- The stage of a job in a printer's slot, by its state (R131). -/
def JobState.stage : JobState → Option Stage
  | .staged => some .staged
  | .feeding => some .feeding
  | .printing => some .printing
  | .delivering => some .delivering
  | .queued | .inDoubt => none

/-- Whether a tag stands in a printer's staged or current slot. -/
def PrinterRec.holds (r : PrinterRec) (t : Tag) : Bool := r.staged = some t ∨ r.current.map (·.tag) = some t

/-- What a record says of the job a tag names: stage, serial and magazine only while it is in a slot of the printer
(R131). Where one reply brings several printer events, or a magazine shown empty after events, the job is described as the
earlier ones left it, not as it stood before the reply: the model's choice (notes/assumptions 20). -/
def State.describe (s : State) (p : Printer) (t : Tag) : FaultFields :=
  if (s.printer p).holds t then
    match s.findJob t with
    | some j => { stage := j.state.stage, tag := some t, serial := j.serial, mag := some ⟨p, j.stock⟩ }
    | none => { tag := some t }
  else { tag := some t }

/-- What a record says of the printer's current job (R131). -/
def State.describeCurrent (s : State) (p : Printer) : FaultFields :=
  match (s.printer p).current with
  | some c => s.describe p c.tag
  | none => {}

/-! ### Acknowledgement (R141) -/

/-- To acknowledge a record (R141). -/
def FaultRecord.acknowledge (r : FaultRecord) : FaultRecord :=
  match r.state with
  | .opened => { r with state := .acknowledged }
  | .capturing => { r with ackPending := true }
  | .acknowledged => r

end Sys2Proof.Machine
end

