-- ==== Sys2Proof/Machine/Outcomes.lean ====
section
/-! DEFINITION. What printer events do (R43, R52 to R59, R85, R86, R100, R104, R109 to R118): stages completed, prints
stopped, magazines opened, closed and shown empty, marks judged, and a printer fallen silent. -/

namespace Sys2Proof.Machine

/-- Why a job in a printer's slot fails (R113). -/
inductive LossCause where
  | jam | noProgress | offline
deriving DecidableEq, Repr

/-- The reason of the FAILED notice (R116). -/
def LossCause.reason : LossCause → Reason
  | .jam => .jam | .noProgress => .noProgress | .offline => .offline

/-- The reason of the exception entry (R116, R117). -/
def LossCause.entryReason : LossCause → ExcReason
  | .jam => .jam | .noProgress => .noProgress | .offline => .offline

/-! ### Matching an event with a job (R43) -/

/-- The job an event with this tag from this printer matches, if its state is one the event is taken in (R43). -/
def State.matching (s : State) (p : Printer) (t : Tag) (states : List JobState) : Option Job :=
  (s.findJob t).filter fun j => j.printer = some p ∧ j.state ∈ states

/-! ### When a print is stopped (R113 to R117) -/

/-- A FEEDING job fails: back to the queue, its place given up, its magazine HELD (NO_PROGRESS) unless DISCREPANT (R55,
R115). -/
def State.failFeeding (s : State) (j : Job) (p : Printer) : State :=
  let m : MagId := ⟨p, j.stock⟩
  let s := (s.requeue j.tag).modMag m Magazine.uncommit
  let s := if (s.mag m).state = .active ∨ (s.mag m).isHeld then s.moveMag m (.held .noProgress) else s
  s.emptyCurrent p

/-- The SPOILED entry of a PRINTING job's blank, and the spoiled count (R65, R116). -/
def State.spoilBlank (s : State) (j : Job) (r : ExcReason) : State :=
  (s.addEntry (j.entry (j.serial.getD 0) .spoiled r none s.clock)).countSpoiled j.stock

/-- A PRINTING job fails: its blank is spoiled, and it is returned once with its retry used, or ends FAILED (R116). -/
def State.failPrinting (s : State) (j : Job) (p : Printer) (c : LossCause) : State :=
  let s := s.spoilBlank j c.entryReason
  let s :=
    if j.retry = 0 then (s.modJob j.tag fun j => { j with retry := 1 }).requeue j.tag
    else s.leaveCarried j (.failed c.reason) none
  s.emptyCurrent p

/-- A DELIVERING job fails: its blank and the job are IN_DOUBT (R117). -/
def State.failDelivering (s : State) (j : Job) (p : Printer) (c : LossCause) : State :=
  let s := s.addEntry (j.entry (j.serial.getD 0) .inDoubt c.entryReason none s.clock)
  let s := (s.modJob j.tag fun j => { j with state := .inDoubt }).emptyCurrent p
  s.notify j.tag.window (.job j.tag.job) (.job j.tag.job) (j.notice .inDoubt j.serial)

/-- The failure of a current job by its stage (R115 to R117). -/
def State.loseCurrent (s : State) (j : Job) (p : Printer) (c : LossCause) : State :=
  match j.state with
  | .feeding => s.failFeeding j p
  | .printing => s.failPrinting j p c
  | .delivering => s.failDelivering j p c
  | .queued | .staged | .inDoubt => s

/-- Whether the failure of a job in a printer's slot returns it to the queue (R114 to R116). -/
def Job.returns (j : Job) : Bool :=
  match j.state with
  | .staged | .feeding => true
  | .printing => j.retry = 0
  | .queued | .delivering | .inDoubt => false

/-- What follows the failure of a current job: a dispatch opportunity when the job returned to the queue, and permission
judged for the emptied slot, or for every printer when the free count rose from `before` (R73, R78). -/
def State.afterLoss (s : State) (returned : Bool) (before : Nat) (p : Printer) : State :=
  if returned then s.opportunity (s.judged before [p]) else s.judgePermission (s.judged before [p])

/-- The failure of a job in a printer's slot, with what follows it (R113 to R117). -/
def State.failJob (s : State) (j : Job) (p : Printer) (c : LossCause) : State :=
  match j.state with
  | .staged => (s.returnStaged p).opportunity []
  | .feeding | .printing | .delivering => (s.loseCurrent j p c).afterLoss j.returns s.free p
  | .queued | .inDoubt => s

/-! ### The stages completed (R57 to R60, R110 to R112) -/

/-- The draw of a FED in the magazine the job was feeding from: next, remaining, committed count (R57). -/
def State.drawBlank (s : State) (m : MagId) : State :=
  let threshold := (s.stock.get m.stock).threshold
  s.modMag m fun r => (r.draw threshold).uncommit

/-- The current job is in a stage whose limit runs out after `ticks` (R109). -/
def State.startTimer (s : State) (p : Printer) (g : Stage) (ticks : Nat) : State :=
  s.modPrinter p fun r => { r with timer := some ⟨g, s.now + ticks⟩ }

/-- The printer's last stock type fed (R80). -/
def State.noteFed (s : State) (p : Printer) (k : Stock) : State :=
  s.modPrinter p fun r => { r with lastStock := some k }

/-- An ACTIVE magazine drawn out becomes EXHAUSTED (R59). -/
def State.exhaust (s : State) (m : MagId) : State :=
  if (s.mag m).state = .active ∧ (s.mag m).remaining = 0 then s.moveMag m .exhausted else s

/-- A FED that agrees, or that neither carries nor was asked for a sighting (R57, R59, R60, R110). -/
def State.fedAgrees (s : State) (j : Job) (p : Printer) (c : Current) (sighted : Option Nat) : State :=
  let m : MagId := ⟨p, j.stock⟩
  let s := s.drawBlank m
  let s := if sighted.isSome then s.modMag m fun r => { r with sightDue := false } else s
  let s := (s.auditDraw m).exhaust m
  let s := s.modJob j.tag fun j => { j with state := .printing, serial := some c.expected }
  ((s.noteFed p j.stock).startTimer p .printing Config.printingLimit).opportunity []

/-- A FED whose sighting disagrees (R58, R110). -/
def State.fedDisagrees (s : State) (j : Job) (p : Printer) (c : Current) (sighted : Option Nat) : State :=
  let m : MagId := ⟨p, j.stock⟩
  let before := s.free
  let s := (s.drawBlank m).addEntry (j.entry c.expected .spoiled .sight sighted s.clock)
  let s := (s.countSpoiled j.stock).moveMag m .discrepant
  let s := s.printerFault p .sightMismatch
    { stage := some .feeding, tag := some j.tag, serial := some c.expected, sighted := sighted, mag := some m }
  let s := ((s.noteFed p j.stock).requeue j.tag).emptyCurrent p
  s.opportunity (s.judged before [p])

/-- A FED is taken (R57, R58, R110). -/
def State.takeFed (s : State) (p : Printer) (t : Tag) (sighted : Option Nat) : State :=
  match s.matching p t [.feeding], (s.printer p).current with
  | some j, some c =>
    if sighted = some c.expected ∨ (sighted = none ∧ c.sight = false) then s.fedAgrees j p c sighted
    else s.fedDisagrees j p c sighted
  | _, _ => s

/-- A PRINTED is taken (R111). -/
def State.takePrinted (s : State) (p : Printer) (t : Tag) : State :=
  match s.matching p t [.printing] with
  | some j => (s.modJob j.tag fun j => { j with state := .delivering }).startTimer p .delivering Config.deliveringLimit
  | none => s

/-- An EJECTED is taken: the job is DONE (R112). -/
def State.takeEjected (s : State) (p : Printer) (t : Tag) : State :=
  match s.matching p t [.delivering] with
  | some j =>
    let s' := s.modShift j.tag.window fun h => h.issue j
    let s' := (s'.leaveIssued j .done).emptyCurrent p
    s'.judgePermission (s'.judged s.free [p])
  | none => s

/-- A FAULT is taken: a fault record, and the failure of a job it names and matches (R100, R113, R130, R131). -/
def State.takeFault (s : State) (p : Printer) (k : FaultKind) (t : Option Tag) : State :=
  match t with
  | none => s.printerFault p (.printer k) (s.describeCurrent p)
  | some t =>
    let s' := s.printerFault p (.printer k) (s.describe p t)
    match s'.matching p t [.staged, .feeding, .printing, .delivering] with
    | some j => s'.failJob j p .jam
    | none => s'

/-! ### Magazines opened, closed and shown empty (R52 to R54) -/

/-- A MAG_OPEN is taken (R52). -/
def State.takeMagOpen (s : State) (p : Printer) (k : Stock) : State :=
  let m : MagId := ⟨p, k⟩
  match (s.mag m).state with
  | .active =>
    let s := s.printerFault p .magazineOpened { s.describeCurrent p with serial := none, sighted := none, mag := some m }
    s.leaveActive m (.held .opened)
  | .pending | .held _ => s.moveMag m (.held .opened)
  | .empty | .discrepant | .exhausted => s

/-- The state of a magazine whose closing sighting agrees (R53). -/
def Magazine.agreedState (m : Magazine) : MagState :=
  match m.state with
  | .pending => .active
  | .held _ => if 0 < m.remaining then .active else .exhausted
  | .empty => .empty
  | .active => .active
  | .discrepant => .discrepant
  | .exhausted => .exhausted

/-- A closing sighting that agrees (R53). -/
def State.sightingAgrees (s : State) (m : MagId) : State :=
  let st := (s.mag m).agreedState
  let entered := (s.mag m).state ≠ .active ∧ st = .active
  let s := s.modMag m fun r => { r with state := st, notSighted := false, sightDue := false }
  if entered then s.opportunity [] else s

/-- A closing sighting that disagrees (R53). -/
def State.sightingDisagrees (s : State) (m : MagId) (sighted : Option Nat) : State :=
  let was := (s.mag m).state
  let s := s.printerFault m.printer .magazineDiscrepant
    { s.describeCurrent m.printer with
      serial := (s.mag m).expectedSighting, sighted := sighted, mag := some m }
  if was = .active then s.leaveActive m .discrepant else s.moveMag m .discrepant

/-- A MAG_CLOSED is taken, with its closing sighting; `none` is "no blank" (R53). -/
def State.takeMagClosed (s : State) (p : Printer) (k : Stock) (sighted : Option Nat) : State :=
  let m : MagId := ⟨p, k⟩
  match (s.mag m).state with
  | .empty | .discrepant => s
  | .pending | .held _ | .active | .exhausted =>
    if sighted = (s.mag m).expectedSighting then s.sightingAgrees m else s.sightingDisagrees m sighted

/-- A reply shows a magazine empty: an ACTIVE magazine becomes DISCREPANT (R54). -/
def State.takeEmptyShown (s : State) (m : MagId) : State :=
  if (s.mag m).state = .active then
    let s := s.trace m.printer (.emptyShown m.stock) none none
    let s := s.printerFault m.printer .magazineDiscrepant
      { s.describeCurrent m.printer with serial := some (s.mag m).next, sighted := none, mag := some m }
    s.leaveActive m .discrepant
  else s

/-! ### The printer's state (R70, R85, R86) -/

/-- A printer takes a state and a return mark. A change out of READY returns the staged job; that, and a change into
READY, are dispatch opportunities (R70, R75). -/
def State.movePrinter (s : State) (p : Printer) (st : PrinterState) (mark : Bool) : State :=
  let r := s.printer p
  let s := s.modPrinter p fun r => { r with state := st, returnMark := mark }
  if r.state = .ready ∧ st ≠ .ready ∧ r.staged.isSome then (s.returnStaged p).opportunity []
  else if r.state ≠ .ready ∧ st = .ready then s.opportunity []
  else s

/-- The state that the marks of a reply show by themselves (R85). -/
def shownState (latched : Option FaultKind) (cover : Bool) : PrinterState :=
  match latched with
  | some k => .faulted k
  | none => if cover then .faulted .coverOpen else .ready

/-- The state and return mark of a printer after a good reply's marks are judged (R85). `answers` says that the reply
is the one to the CLEAR given under the return mark. -/
def judgeState (st : PrinterState) (mark answers : Bool) (latched : Option FaultKind) (cover : Bool) :
    PrinterState × Bool :=
  match st with
  | .ready | .offline => (shownState latched cover, mark)
  | .withdrawn => if answers then (shownState latched cover, false) else (.withdrawn, mark)
  | .faulted k =>
    if answers then (shownState latched cover, false)
    else match latched with
      | some k' => (.faulted k', mark)
      | none => if k = .coverOpen ∧ cover = false then (.ready, false) else (.faulted k, mark)

/-- The cover and latched-fault marks of a good reply are judged (R85). -/
def State.judgeMarks (s : State) (p : Printer) (answers : Bool) (latched : Option FaultKind) (cover : Bool) : State :=
  let r := s.printer p
  let (st, mark) := judgeState r.state r.returnMark answers latched cover
  s.movePrinter p st mark

/-- Whether a NO_RESPONSE makes a printer of this state OFFLINE (R86). -/
def PrinterState.answering : PrinterState → Bool
  | .ready | .faulted _ => true
  | .withdrawn | .offline => false

/-- The dispatcher's part of a NO_RESPONSE: OFFLINE with the staged job returned and the capture closed short (R86,
R139). -/
def State.goOffline (s : State) (p : Printer) : State :=
  if (s.printer p).state.answering then
    let s := (s.modPrinter p fun r => { r with state := .offline, returnMark := false }).returnStaged p
    { s with faults := s.faults.closeShort p }
  else s

/-- NO_RESPONSE is declared for a printer (R86, R104, R113). -/
def State.noResponse (s : State) (p : Printer) : State :=
  let fields := s.describeCurrent p
  let before := s.free
  let s := s.trace p .noResponse ((s.printer p).current.map (·.tag)) none
  let s := s.modLine p fun r => { r with synced := false, lastMarks := none }
  let returnedStaged := (s.printer p).state.answering && (s.printer p).staged.isSome
  let s := s.goOffline p
  let current := (s.printer p).current.bind fun c => s.findJob c.tag
  let s := match current with
    | some j => s.loseCurrent j p .offline
    | none => s
  let s := s.printerFault p .noResponse fields
  s.afterLoss (returnedStaged || current.any Job.returns) before p

end Sys2Proof.Machine
end

