-- ==== Sys2Proof/Machine/Starts.lean ====
section
/-! DEFINITION. Starts (R44, R68, R88, R108, R128, R143, R164, R190, R195 to R199): what a loss of the main supply takes
away, the beginning of a start, the recovery of a warm start, the cold start, and the completion. -/

namespace Sys2Proof.Machine

/-! ### State the retention store does not keep (R195) -/

/-- A printer record without what the store does not keep: WITHDRAWN stays, every other state is OFFLINE, and the slots,
the return mark, the time of last outcome and the timer are gone (R88). -/
def PrinterRec.kept (r : PrinterRec) : PrinterRec :=
  { r with
    state := if r.state = .withdrawn then .withdrawn else .offline
    returnMark := false, staged := none, current := none, lastOutcome := none, timer := none }

/-- A window without its notices and snapshot (R44, R164). -/
def WindowRec.kept (r : WindowRec) : WindowRec := { r with notices := [], snapshot := none }

/-- A link whose reply order, outgoing message and receiver are emptied; the ready input is the terminal's (R190). -/
def LinkRec.kept (r : LinkRec) : LinkRec := .cleared r.ready

/-- The state with every item the retention store does not keep at its value after a start (R195). -/
def State.clearVolatile (s : State) : State :=
  { s with
    printers := s.printers.map PrinterRec.kept
    lines := ⟨.cleared, .cleared, .cleared, .cleared⟩
    rotation := .p1
    turn := none
    heard := []
    windows := s.windows.map WindowRec.kept
    links := ⟨s.links.window.map LinkRec.kept, s.links.office.kept⟩
    cursor := .cleared }

/-! ### The beginning of a start (R196, R198, R199) -/

/-- A start begins. The kept state is changed only at the completion (R199). -/
def State.beginStart (s : State) (warm : Bool) (cause : StartCause) : State :=
  { s.clearVolatile with power := .starting ⟨warm, cause, s.now⟩ }

/-! ### The recovery of a warm start (R68, R128) -/

/-- A job ended by the recovery, with its carried notice. The end of a CLOSING wait comes at the completion (R128,
R164). -/
def State.recoverEnded (s : State) (j : Job) (k : JobNoticeKind) : State :=
  (s.dropJob j.tag).notify j.tag.window (.job j.tag.job) .carried (j.notice k none)

/-- A job the recovery leaves IN_DOUBT with a serial, with its notice (R128). -/
def State.recoverDoubt (s : State) (j : Job) (serial : Nat) : State :=
  (s.modJob j.tag fun j => { j with state := .inDoubt, serial := some serial }).notify j.tag.window
    (.job j.tag.job) (.job j.tag.job) (j.notice .inDoubt (some serial))

/-- The IN_DOUBT entry of the recovery (R68). -/
def State.recoverEntry (s : State) (j : Job) (serial : Nat) : State :=
  s.addEntry (j.entry serial .inDoubt .restart none s.clock)

/-- One retained job settled by its state at the loss (R128). -/
def State.recoverJob (s : State) (j : Job) : State :=
  match j.state with
  | .queued | .staged => s.recoverEnded j (.cancelled .restart)
  | .feeding =>
    match j.printer with
    | some p =>
      let m : MagId := ⟨p, j.stock⟩
      let serial := (s.mag m).next
      let threshold := (s.stock.get j.stock).threshold
      ((s.modMag m fun r => r.draw threshold).recoverEntry j serial).recoverDoubt j serial
    | none => s
  | .printing => (s.spoilBlank j .restart).recoverEnded j (.failed .restart)
  | .delivering => (s.recoverEntry j (j.serial.getD 0)).recoverDoubt j (j.serial.getD 0)
  | .inDoubt => s.recoverDoubt j (j.serial.getD 0)

/-- A magazine record at the beginning of the recovery: ACTIVE and PENDING become HELD (RESTART) (R68). -/
def Magazine.restart (r : Magazine) : Magazine :=
  match r.state with
  | .active | .pending => { r with state := .held .restart }
  | .empty | .held _ | .discrepant | .exhausted => r

/-- The eight magazine records changed alike. -/
def State.modMags (s : State) (f : Magazine → Magazine) : State :=
  { s with magazines := s.magazines.map fun x => x.map f }

/-- Each shift's active count becomes its number of active jobs, which the recovery leaves IN_DOUBT (R128, R164). -/
def State.recount (s : State) (w : Window) : State := s.modShift w fun h => { h with active := s.activeJobs w }

/-- The fault log after a start: captures closed short and the RESTART record made last (R143). -/
def FaultLog.restart (l : FaultLog) (cause : StartCause) (c : Stamp) : FaultLog :=
  l.closeAll.makeRoom.append (restartRecord cause c)

/-- What a warm start does to the kept state (R68, R128, R143). -/
def State.recover (s : State) (cause : StartCause) : State :=
  let s := s.modMags Magazine.restart
  let s := s.jobs.foldl State.recoverJob s
  let s := s.modMags fun r => { r with committed := 0 }
  let s := allWindows.foldl State.recount s
  { s with faults := s.faults.restart cause s.clock }

/-! ### The cold start (R1, R44, R68, R88, R143, R164, R178, R197) -/

/-- The state after a cold start: every kept item at its value after cold start; the links, the rates, the time and the
waiting commands stand. A COLD START request leaves the clock; at power-on the clock is set to day 0, minute 0 with the
clock-not-set mark, and the RETENTION_LOST record is made. -/
def State.coldStart (s : State) (cause : StartCause) : State :=
  let s' : State :=
    { State.delivered with
      pending := s.pending, arrivals := s.arrivals, now := s.now, power := s.power, standby := s.standby
      linkRate := s.linkRate, lineRate := s.lineRate, links := s.links }
  match cause with
  | .office => { s' with clock := s.clock, clockSince := s.clockSince }
  | .power => { s' with clockSince := s.now, faults := ⟨[.retentionLost s'.clock], 5, false, 1⟩ }

/-! ### The completion (R198, R199) -/

/-- The reply to the RESTART or COLD START that began the start (R198). -/
def startReply (warm : Bool) (c : Stamp) : Reply := .accepted (if warm then 140 else 141) (.started warm c)

/-- The reply joins the office link's reply order when an office request began the start (R198). -/
def State.answerStart (s : State) (i : StartInfo) : State :=
  match i.cause with
  | .office => s.enqueue .office ⟨.start, startReply i.warm s.clock⟩
  | .power => s

/-- The completion of a start, in the order of R199: the kept state, the standby monitor mark, the reply, the CLOSING
shifts left with no active job; and the window links may carry notices again. -/
def State.completeStart (s : State) (i : StartInfo) : State :=
  let s := if i.warm then s.recover i.cause else s.coldStart i.cause
  let s := { s with standby := true, power := .running }
  let s := s.answerStart i
  (allWindows.foldl State.closingEnd s).pumpWindows

end Sys2Proof.Machine
end

