-- ==== Sys2Proof/Machine/Views.lean ====
section
/-! DEFINITION. What STATUS, QUERY JOB and the office cursor show of the state (R30, R31, R62, R67, R87, R107, R144,
R163, R165, R175, R186 to R188). None of it changes anything. -/

namespace Sys2Proof.Machine

/-! ### Printers -/

/-- The time left of the pacing wait for the staged job, in ms; 0 when it has run out or no job is staged (R87). -/
def State.waitLeft (s : State) (p : Printer) : Nat :=
  let r := s.printer p
  match r.staged.bind s.findJob with
  | some j => (r.waitEnd j.stock).elim 0 fun e => (e - s.now) * 10
  | none => 0

/-- The dispatcher's items of a printer (R87). -/
def State.printerView (s : State) (p : Printer) : PrinterView :=
  let r := s.printer p
  { state := r.state, returnMark := r.returnMark, staged := r.staged
    current := (r.current.bind fun c => s.findJob c.tag).map fun j => (j.tag, j.state)
    lastStock := r.lastStock, base := r.base, multiplier := r.multiplier, changeover := r.changeover
    waitLeft := s.waitLeft p }

/-- The pending command with its tag when it is a PRINT (R107). -/
def LineRec.pendingView (r : LineRec) : PendingView :=
  match r.pendingCmd with
  | none => .none
  | some (.print c) => .print c.tag
  | some .clear => .clear

/-- The printer line's items of a printer (R107). -/
def State.lineView (s : State) (p : Printer) : LineView :=
  let r := s.lineRec p
  ⟨s.lineRate, r.pendingView, r.lastTaken, r.synced, r.misses, r.lastMarks, r.ring.length⟩

/-! ### Windows -/

/-- The items of R163 and R165 that both forms of STATUS give. -/
def State.shiftView (s : State) (w : Window) : ShiftView :=
  let r := s.window w
  let h := r.shift
  { state := h.state, number := h.number, clerk := h.clerk, float := h.float, openStamp := h.openStamp
    active := h.active, tallies := h.tallies, sticky := h.sticky, ended := h.ended
    flags := r.profile.flags, limit := r.profile.limit, staged := h.staged, declared := h.declared }

/-- The WINDOW section of a window (R163, R165, R188). -/
def State.windowView (s : State) (w : Window) : WindowView :=
  let r := s.window w
  ⟨s.shiftView w, r.shift.forced, r.shift.closeStamp, s.waitOrder, r.snapshot.isSome⟩

/-- One of a window's printers, with the low marks of its magazines (R62, R87). -/
def State.printerBrief (s : State) (p : Printer) : PrinterBrief :=
  ⟨p, (s.printer p).state, (s.mag ⟨p, .ticket⟩).low, (s.mag ⟨p, .coupon⟩).low⟩

/-- Whether a window's oldest QUEUED job has no printer by R74 (R87). -/
def State.stranded (s : State) (w : Window) : Bool :=
  (s.jobs.find? fun j => j.state = .queued ∧ j.tag.window = w).any fun j => (s.chosenPrinter j).isNone

/-- The window form of STATUS (R188). -/
def State.windowStatus (s : State) (w : Window) : WindowStatus :=
  let r := s.routes.get w
  { active := s.activeJobs w, load := s.load w, full := s.queueFlags.full, home := s.printerBrief r.home
    alternate := r.alternate.map s.printerBrief, noPrinter := s.stranded w, shift := s.shiftView w }

/-! ### The sections of the office form (R188) -/

/-- One value for each window. -/
def perWindow (f : Window → α) : PerWindow α := ⟨f .w1, f .w2, f .w3, f .w4, f .w5, f .w6⟩

def State.deviceView (s : State) : DeviceView :=
  { clock := s.clock, linkRate := s.linkRate, lineRate := s.lineRate, page := s.fare.active
    voidPeriod := s.voidPeriod, lead := s.faults.lead, active := s.jobs.length, flags := s.queueFlags
    windows := perWindow fun w => (s.activeJobs w, s.load w) }

def State.stockView (s : State) : StockView := ⟨s.stock, s.exceptions.length, s.reservations, s.free⟩

def State.faultsView (s : State) : FaultsView :=
  let r := s.faults.records
  { records := r.length, capturing := r.countP (·.state = .capturing), opened := r.countP (·.state = .opened)
    acknowledged := r.countP (·.state = .acknowledged)
    marked := r.countP fun x => x.state = .capturing ∧ x.ackPending = true
    overrun := s.faults.overrun, lead := s.faults.lead, nextNumber := s.faults.nextNumber }

/-- The windows in LIST_WAIT with their places and the results of their held records (R175). That they are listed in wait order,
not by window number, is the model's choice (notes/assumptions 16). -/
def State.waitingView (s : State) : List (Window × Nat × Overall) :=
  s.waitOrder.zipIdx.filterMap fun x => (s.shift x.1).heldRecord.map fun r => (x.1, x.2 + 1, r.overall)

def State.cashUpView (s : State) : CashUpView :=
  ⟨s.cashUps.length, s.cashUps.countP (!·.collected), s.waitingView, s.tolerance⟩

/-! ### The cursor lists (R186, R187) -/

/-- The records of a cursor list, in its order (R186). -/
def State.cursorRecords (s : State) : CursorList → List CursorRecord
  | .faultLog => s.faults.records.map .fault
  | .exceptions => s.exceptions.map .exception
  | .cashUp => s.cashUps.map .cashUp
  | .jobs => s.jobs.zipIdx.map fun x => .job x.1 (x.2 + 1)
  | .recent w => (s.window w).recent.map .recent
  | .trace p => (s.lineRec p).ring.map .trace
  | .discounts g =>
    let page := match g with
      | .zero => s.fare.page0
      | .one => s.fare.page1
    page.toList.zipIdx.map fun x => .discount g x.2 x.1

/-- The acceptance sequence of a job: its position in the acceptance order, 1 for the oldest (R28). -/
def State.sequence (s : State) (t : Tag) : Nat := s.jobs.findIdx (·.tag = t) + 1

end Sys2Proof.Machine
end

