-- ==== Sys2Proof/Machine/DeviceRequests.lean ====
section
/-! DEFINITION. STATUS in both forms, SET CLOCK, RESTART, COLD START, and the office cursor: SELECT and READ (R136, R186
to R189, R198). -/

namespace Sys2Proof.Machine

open Host (Outcome)

/-! ### STATUS (R188) -/

def execWindowStatus (w : Window) (s : State) : Outcome State Fault Refusal :=
  .next (s.receive (.window w) 10 fun s => s.accept 10 (.windowStatus (s.windowStatus w)))

/-- A section of the office form: section code and index; `none` where the code is outside 1 to 8 or the index outside
the range the section takes (R188). -/
def State.statusSection (s : State) (sect index : Byte) : Option Body :=
  match sect.toNat with
  | 1 => if index = 0 then some (.device s.deviceView) else none
  | 2 => (printerOf index).map fun p => .printer p (s.printerView p) (s.lineView p)
  | 3 => if index = 0 then some (.routing s.routes) else none
  | 4 => (magOf index).map fun m => .magazineStatus m (s.mag m)
  | 5 => if index = 0 then some (.stock s.stockView) else none
  | 6 => if index = 0 then some (.faults s.faultsView) else none
  | 7 => (windowOf index).map fun w => .window w (s.windowView w)
  | 8 => if index = 0 then some (.cashUpStatus s.cashUpView) else none
  | _ => none

def State.takeOfficeStatus (s : State) (sect index : Byte) : Taken :=
  match s.statusSection sect index with
  | some b => s.accept 10 b
  | none => s.refuse 10 .badValue

def execOfficeStatus (sect index : Byte) (s : State) : Outcome State Fault Refusal :=
  .next (s.receive .office 10 fun s => s.takeOfficeStatus sect index)

/-! ### SET CLOCK (R189) -/

def State.takeSetClock (s : State) (day minute : Half) : Taken :=
  if 1439 < minute.toNat then s.refuse 11 .badValue
  else
    let c : Stamp := ⟨day, minute.toNat, false⟩
    { s with clock := c, clockSince := s.now }.accept 11 (.clock c)

def execSetClock (day minute : Half) (s : State) : Outcome State Fault Refusal :=
  .next (s.receive .office 11 fun s => s.takeSetClock day minute)

/-! ### RESTART and COLD START (R198) -/

def State.takeRestart (s : State) : Taken := ⟨s.beginStart true .office, none⟩

def execRestart (s : State) : Outcome State Fault Refusal := .next (s.receive .office 12 State.takeRestart)

/-- Whether nothing of account is held: every shift CLOSED, every magazine EMPTY, the cash-up list empty (R198). -/
def State.nothingHeld (s : State) : Bool :=
  (allWindows.all fun w => (s.shift w).state = .closed) && (allMags.all fun m => (s.mag m).state = .empty) &&
    s.cashUps.isEmpty

def State.takeColdStart (s : State) : Taken :=
  if s.nothingHeld then ⟨s.beginStart false .office, none⟩ else s.refuse 13 .inUse

def execColdStart (s : State) : Outcome State Fault Refusal := .next (s.receive .office 13 State.takeColdStart)

/-! ### The office cursor (R186, R187) -/

/-- The highest index a SELECT may give (R186). -/
def maxIndex : Nat := 64

def State.takeSelect (s : State) (list param index mode : Byte) : Taken :=
  match cursorListOf list param, cursorModeOf mode with
  | some l, some m =>
    if index = 0 ∨ maxIndex < index.toNat then s.refuse 16 .badValue
    else
      { s with cursor := ⟨some l, index.toNat, m⟩ }.accept 16
        (.selected l index.toNat m (s.cursorRecords l).length)
  | _, _ => s.refuse 16 .badValue

def execSelect (list param index mode : Byte) (s : State) : Outcome State Fault Refusal :=
  .next (s.receive .office 16 fun s => s.takeSelect list param index mode)

/-- The cursor after a READ that returned a record: the position rises in SEQUENTIAL mode (R187). -/
def Cursor.advance (c : Cursor) : Cursor :=
  match c.mode with
  | .sequential => { c with position := c.position + 1 }
  | .random => c

/-- Whether a READ that returns a record clears the overrun mark: SEQUENTIAL, position 1 of FAULT_LOG (R136, R187). -/
def Cursor.clearsOverrun (c : Cursor) : Bool :=
  c.selection = some .faultLog ∧ c.position = 1 ∧ c.mode = .sequential

/-- The state after a READ that returned a record (R136, R187). -/
def State.afterRead (s : State) : State :=
  { s with
    cursor := s.cursor.advance
    faults := if s.cursor.clearsOverrun then { s.faults with overrun := false } else s.faults }

def State.takeRead (s : State) : Taken :=
  match s.cursor.selection with
  | none => s.refuse 17 .wrongState
  | some l =>
    match (s.cursorRecords l)[s.cursor.position - 1]? with
    | some r => s.afterRead.accept 17 (.record l s.cursor.position r)
    | none => s.accept 17 (.readEnd l s.cursor.position)

def execRead (s : State) : Outcome State Fault Refusal := .next (s.receive .office 17 State.takeRead)

end Sys2Proof.Machine
end

