-- ==== Sys2Proof/Machine/Fare.lean ====
section
/-! DEFINITION. The fare unit (R1 to R21): discount pages, the form and privilege checks of an ISSUE, the charge of a
line, the total, the condition set and its resolution. -/

namespace Sys2Proof.Machine

/-! ### Discount pages (R1 to R4) -/

def Page.other : Page → Page
  | .zero => .one | .one => .zero

def FareUnit.page (f : FareUnit) : Page → Vector DiscountEntry 32
  | .zero => f.page0 | .one => f.page1

/-- The entry a discount code selects on a page. -/
def FareUnit.entry (f : FareUnit) (g : Page) (d : Nat) : DiscountEntry := ((f.page g)[d]?).getD .plain

/-- A page with one entry replaced (R3). -/
def FareUnit.write (f : FareUnit) (g : Page) (d : Nat) (e : DiscountEntry) : FareUnit :=
  match g with
  | .zero => { f with page0 := f.page0.setIfInBounds d e }
  | .one => { f with page1 := f.page1.setIfInBounds d e }

/-! ### The charge of a passenger line (R9 to R12) -/

/-- The numerator N (R9). -/
def numerator (fare rate : Nat) : Nat := fare * (10000 - rate)

/-- The rounded charge P0 (R10). -/
def Rounding.round (mode : Rounding) (n : Nat) : Nat :=
  match mode with
  | .nearest => (n + 5000) / 10000
  | .down => n / 10000
  | .up => (n + 9999) / 10000
  | .five => 5 * ((n + 25000) / 50000)

/-- The charge P of one passenger, and whether RND and MIN were raised (R12). -/
structure Charge where
  charge : Nat
  rnd : Bool
  min : Bool
deriving DecidableEq, Repr

/-- The four stages (R9 to R12). -/
def chargeOf (e : DiscountEntry) (fare : Nat) : Charge :=
  let n := numerator fare e.rate
  let capped := min (e.mode.round n) fare
  let rnd := decide (capped * 10000 ≠ n)
  let floor := min e.minimum fare
  if 0 < e.rate ∧ capped < floor then ⟨floor, rnd, true⟩ else ⟨capped, rnd, false⟩

/-! ### The form check (R6, R191) -/

/-- A BAD_FORM fault of an ISSUE: the number of lines, the length of the route code, a supplement or seat on a TICKET
job, or a seat without a coach letter (R6, R191). -/
def IssueForm.badForm (r : IssueReq) : Bool :=
  r.lines.length = 0 || decide (4 < r.lines.length) || decide (16 < r.route.length) ||
    (stockOf r.stock = some .ticket && ((supplementOf r).isSome || (seatRef r).isSome)) ||
    (r.coach = 0 && r.seat ≠ 0)

/-- A BAD_VALUE fault of one passenger line (R6). -/
def IssueForm.badLine (l : LineReq) : Bool :=
  fareClassOf l.fareClass = none || l.quantity = 0 || decide (9 < l.quantity.toNat) ||
    decide (500000 < l.fare.toNat) || decide (31 < l.code.toNat)

/-- A BAD_VALUE fault of an ISSUE (R6). -/
def IssueForm.badValue (r : IssueReq) : Bool :=
  stockOf r.stock = none || tenderOf r.tender = none || r.lines.any badLine ||
    (supplementOf r).any (fun v => decide (50000 < v)) ||
    r.route.any (fun c => decide (c.toNat < 32) || decide (126 < c.toNat)) ||
    (seatRef r).any fun q =>
      decide (q.coach.toNat < 65) || decide (90 < q.coach.toNat) || q.seat = 0 || decide (99 < q.seat.toNat)

/-- The content of an ISSUE that has passed its form check. -/
structure IssueContent where
  stock : Stock
  tender : Tender
  supplement : Option Nat
  route : List Byte
  validity : Half
  seat : Option Seat
  lines : List (FareClass × LineReq)
deriving DecidableEq, Repr

/-- The form check of an ISSUE: BAD_FORM if any such fault is present, BAD_VALUE otherwise (R6). -/
def formCheck (r : IssueReq) : Except Code IssueContent :=
  if IssueForm.badForm r then .error .badForm
  else if IssueForm.badValue r then .error .badValue
  else match stockOf r.stock, tenderOf r.tender with
    | some k, some t =>
      .ok ⟨k, t, supplementOf r, r.route, r.validity, seatRef r,
        r.lines.map fun l => ((fareClassOf l.fareClass).getD .standard, l)⟩
    | _, _ => .error .badValue

/-! ### Privileges (R8) -/

/-- Whether an ISSUE passes the privilege check on a page (R8). -/
def privileged (f : Profile) (fare : FareUnit) (g : Page) (c : IssueContent) : Bool :=
  (c.stock = .ticket || f.coupon) &&
    (f.restricted || !c.lines.any fun l => (fare.entry g l.2.code.toNat).restricted)

/-! ### Pricing (R9 to R19) -/

/-- A line priced against a page, with its conditions (R9 to R13). -/
def priceLine (fare : FareUnit) (g : Page) (l : FareClass × LineReq) : PricedLine × Charge :=
  let c := chargeOf (fare.entry g l.2.code.toNat) l.2.fare.toNat
  (⟨l.1, l.2.quantity.toNat, l.2.fare.toNat, l.2.code.toNat, c.charge, l.2.quantity.toNat * c.charge⟩, c)

/-- The ticket total T (R14). -/
def totalOf (lines : List PricedLine) (supplement : Option Nat) : Nat :=
  (lines.map (·.amount)).sum + supplement.getD 0

/-- A priced job: its lines, its total and its condition set (R13 to R16). -/
structure Priced where
  lines : List PricedLine
  total : Nat
  conds : CondSet
deriving DecidableEq, Repr

/-- Price an ISSUE against a page and a single-ticket limit (R9 to R16). -/
def price (fare : FareUnit) (g : Page) (limit : Nat) (c : IssueContent) : Priced :=
  let priced := c.lines.map (priceLine fare g)
  let lines := priced.map (·.1)
  let total := totalOf lines c.supplement
  ⟨lines, total,
    { rnd := priced.any (·.2.rnd), min := priced.any (·.2.min), big := decide (limit < total), zero := total = 0,
      ovf := decide (Config.maxTotal < total), sat := false }⟩

/-- The refusal of a condition set under a window's masks: the first refusing condition in the order OVF, BIG, ZERO,
MIN, RND (R18). -/
def refusingCode (f : Profile) (c : CondSet) : Option Code :=
  if c.ovf then some .overflow
  else if c.big && !f.maskBig then some .condBig
  else if c.zero && !f.maskZero then some .condZero
  else if c.min && !f.maskMin then some .condMin
  else if c.rnd && !f.maskRnd then some .condRnd
  else none

/-- The union of two condition sets (R17). -/
def CondSet.union (a b : CondSet) : CondSet :=
  ⟨a.rnd || b.rnd, a.min || b.min, a.big || b.big, a.zero || b.zero, a.ovf || b.ovf, a.sat || b.sat⟩

end Sys2Proof.Machine
end

