-- ==== Sys2Proof/Machine/JobRequests.lean ====
section
/-! DEFINITION. The requests about fares and jobs: ISSUE, CANCEL, QUERY JOB, VOID, WRITE DISCOUNT, SWITCH PAGE,
FLUSH WINDOW, RESOLVE, RESOLVE WINDOW and SET VOID PERIOD (R3, R4, R25, R26, R33 to R37, R120 to R126). Each `take`
operation is what taking the request gives; each `exec` is the arm of its command. -/

namespace Sys2Proof.Machine

open Host (Outcome)

/-! ### ISSUE (R26) -/

/-- Whether a job number is carried by an active job of the window or by an entry of its recent issue list (R25). -/
def State.numberCarried (s : State) (w : Window) (n : JobNo) : Bool :=
  (s.jobs.any fun j => j.tag = ⟨w, n⟩) || (s.window w).recent.any fun e => e.tag = ⟨w, n⟩

/-- The number given to a job: the next one carried by neither, modulo 256; at most 12 are passed over (R25). -/
def State.freeNumber (s : State) (w : Window) : Nat → JobNo → JobNo
  | 0, n => n
  | fuel + 1, n => if s.numberCarried w n then freeNumber s w fuel (n + 1) else n

/-- The record of an accepted job (R20, R24, R26). -/
def newJob (t : Tag) (shift : ShiftNo) (page : Page) (c : IssueContent) (p : Priced) : Job :=
  { tag := t, shift := shift, stock := c.stock, lines := p.lines, supplement := c.supplement, tender := c.tender
    route := c.route, validity := c.validity, seat := c.seat, page := page, total := p.total, referred := p.conds.big
    state := .queued, printer := none, serial := none, retry := 0 }

/-- A priced job is accepted: it joins the end of the acceptance order as QUEUED, and the dispatcher is given an
opportunity (R26). -/
def State.acceptJob (s : State) (j : Job) : State :=
  ({ s with jobs := s.jobs ++ [j] }.modShift j.tag.window fun h =>
      { h with nextJob := j.tag.job + 1, active := h.active + 1 }).opportunity []

/-- The pricing of an ISSUE that has passed its other checks (R17, R18, R20, R26). -/
def State.takePriced (s : State) (w : Window) (c : IssueContent) : Taken :=
  let f := (s.window w).profile
  let p := price s.fare s.fare.active f.limit c
  let s := s.modShift w fun h => { h with sticky := h.sticky.union p.conds }
  match refusingCode f p.conds with
  | some code => ⟨s, some (.priced code p.conds p.total)⟩
  | none =>
    let j := newJob ⟨w, s.freeNumber w 12 (s.shift w).nextJob⟩ (s.shift w).number s.fare.active c p
    (s.acceptJob j).accept 1 (.issued j.tag j.total p.conds j.referred)

/-- The checks of an ISSUE in their order, and its pricing (R26). -/
def State.takeIssue (s : State) (w : Window) (r : IssueReq) : Taken :=
  match formCheck r with
  | .error code => s.refuse 1 code
  | .ok c =>
    if (s.shift w).state ≠ .opened then s.refuse 1 .shiftState
    else if !privileged (s.window w).profile s.fare s.fare.active c then s.refuse 1 .notPermitted
    else if Config.maxJobs ≤ s.jobs.length then s.refuse 1 .queueFull
    else if Config.maxLoad ≤ s.load w then s.refuse 1 .windowFull
    else s.takePriced w c

def execIssue (w : Window) (r : IssueReq) (s : State) : Outcome State Fault Refusal :=
  .next (s.receive (.window w) 1 fun s => s.takeIssue w r)

/-! ### CANCEL and QUERY JOB (R33, R37) -/

/-- A QUEUED or STAGED job is cancelled by its window: it leaves the table without a notice, and a STAGED job's slot and
committed place are given up (R33). -/
def State.cancelJob (s : State) (j : Job) : State :=
  match j.state, j.printer with
  | .staged, some p => ((s.unstage p j.stock).leaveSilent j).opportunity []
  | _, _ => s.leaveSilent j

def State.takeCancel (s : State) (w : Window) (n : JobNo) : Taken :=
  match s.findJob ⟨w, n⟩ with
  | some j =>
    match j.state with
    | .queued | .staged => (s.cancelJob j).accept 2 .cancelled
    | .feeding | .printing | .delivering | .inDoubt => s.refuse 2 .tooLate
  | none =>
    if (s.window w).recent.any (·.tag = ⟨w, n⟩) then s.refuse 2 .tooLate else s.refuse 2 .unknownJob

def execCancel (w : Window) (n : JobNo) (s : State) : Outcome State Fault Refusal :=
  .next (s.receive (.window w) 2 fun s => s.takeCancel w n)

def State.takeQueryJob (s : State) (w : Window) (n : JobNo) : Taken :=
  match s.findJob ⟨w, n⟩ with
  | some j => s.accept 3 (.job j (s.sequence j.tag))
  | none =>
    match (s.window w).recent.find? (·.tag = ⟨w, n⟩) with
    | some e => s.accept 3 (.recent e)
    | none => s.refuse 3 .unknownJob

def execQueryJob (w : Window) (n : JobNo) (s : State) : Outcome State Fault Refusal :=
  .next (s.receive (.window w) 3 fun s => s.takeQueryJob w n)

/-! ### VOID (R66, R124 to R126) -/

/-- The minutes of a stamp, from day 0 minute 0. -/
def Stamp.minutes (c : Stamp) : Nat := c.day.toNat * Config.minutesPerDay + c.minute

/-- The age of a stamp: the minutes from it to the clock's minute, modulo the day-number cycle (R124). -/
def ageOf (issued clock : Stamp) : Nat :=
  (clock.minutes + Config.cycleMinutes - issued.minutes) % Config.cycleMinutes

/-- The effects of an accepted VOID (R66, R126). -/
def State.voidEntry (s : State) (w : Window) (e : RecentEntry) : State :=
  let s := (s.addEntry ⟨e.stock, e.serial, .voided, .void, some e.tag, none, s.clock⟩).countVoided e.stock
  let s := s.modShift w fun h => h.void e.tender e.total
  s.modWindow w fun r =>
    { r with recent := r.recent.map fun x => if x.tag = e.tag then { x with voided := true } else x }

def State.takeVoid (s : State) (w : Window) (n : JobNo) : Taken :=
  if !(s.window w).profile.void then s.refuse 4 .notPermitted
  else if (s.shift w).state ≠ .opened then s.refuse 4 .shiftState
  else match (s.window w).recent.find? fun e => e.tag = ⟨w, n⟩ ∧ e.voided = false with
    | none => s.refuse 4 .unknownJob
    | some e =>
      if s.voidPeriod < ageOf e.issued s.clock then s.refuse 4 .voidExpired
      else if s.free = 0 then s.refuse 4 .listFull
      else if !s.voidable e.stock e.serial then s.refuse 4 .wrongState
      else (s.voidEntry w e).accept 4 (.voided e.tag e.serial e.total e.tender)

def execVoid (w : Window) (n : JobNo) (s : State) : Outcome State Fault Refusal :=
  .next (s.receive (.window w) 4 fun s => s.takeVoid w n)

def State.takeSetVoidPeriod (s : State) (v : Byte) : Taken :=
  let v := clamp 0 Config.maxVoidPeriod v.toNat
  { s with voidPeriod := v }.accept 27 (.value v)

def execSetVoidPeriod (v : Byte) (s : State) : Outcome State Fault Refusal :=
  .next (s.receive .office 27 fun s => s.takeSetVoidPeriod v)

/-! ### Discount pages (R3, R4) -/

def State.takeWriteDiscount (s : State) (page entry : Byte) (rate : Half) (mode : Byte) (minimum : Three)
    (restricted : Byte) : Taken :=
  match pageOf page, roundingOf mode, markOf restricted with
  | some g, some m, some x =>
    if 31 < entry.toNat ∨ entry.toNat = 0 ∨ 10000 < rate.toNat ∨ 65535 < minimum.toNat then s.refuse 20 .badValue
    else if g = s.fare.active then s.refuse 20 .pageActive
    else
      let e : DiscountEntry := ⟨rate.toNat, m, minimum.toNat, x⟩
      { s with fare := s.fare.write g entry.toNat e }.accept 20 (.discount g entry.toNat e)
  | _, _, _ => s.refuse 20 .badValue

def execWriteDiscount (page entry : Byte) (rate : Half) (mode : Byte) (minimum : Three) (restricted : Byte)
    (s : State) : Outcome State Fault Refusal :=
  .next (s.receive .office 20 fun s => s.takeWriteDiscount page entry rate mode minimum restricted)

def State.takeSwitchPage (s : State) : Taken :=
  let g := s.fare.active.other
  { s with fare := { s.fare with active := g } }.accept 21 (.page g)

def execSwitchPage (s : State) : Outcome State Fault Refusal :=
  .next (s.receive .office 21 fun s => s.takeSwitchPage)

/-! ### FLUSH WINDOW (R35) -/

/-- One job cancelled by a flush: a STAGED job's slot and place are given up, and the job leaves with a carried
CANCELLED notice (R35). -/
def State.flushJob (s : State) (j : Job) : State :=
  let s := match j.state, j.printer with
    | .staged, some p => s.unstage p j.stock
    | _, _ => s
  s.leaveCarried j (.cancelled .flush) none

/-- The QUEUED and STAGED jobs of a window, in acceptance order. -/
def State.flushable (s : State) (w : Window) : List Job :=
  s.jobs.filter fun j => j.tag.window = w ∧ (j.state = .queued ∨ j.state = .staged)

def State.takeFlushWindow (s : State) (w : Byte) : Taken :=
  match windowOf w with
  | none => s.refuse 24 .badValue
  | some w =>
    let js := s.flushable w
    let s := js.foldl State.flushJob s
    let s := if js.any (·.state = .staged) then s.opportunity [] else s
    (s.pumpWindow w).accept 24 (.count js.length)

def execFlushWindow (w : Byte) (s : State) : Outcome State Fault Refusal :=
  .next (s.receive .office 24 fun s => s.takeFlushWindow w)

/-! ### RESOLVE and RESOLVE WINDOW (R120 to R123) -/

/-- Whether an entry is the IN_DOUBT entry of a job. -/
def ExcEntry.doubtOf (e : ExcEntry) (j : Job) : Bool :=
  e.disposition = .inDoubt ∧ e.stock = j.stock ∧ j.serial = some e.serial

/-- A job resolved ISSUED (R121). It enters the recent issue list when its shift is still the window's current one
(R32). -/
def State.resolveIssued (s : State) (j : Job) : State :=
  let s' := { s with exceptions := s.exceptions.eraseP (·.doubtOf j) }
  let s' := s'.modShift j.tag.window fun h => h.issue j
  let s' :=
    if j.shift = (s.shift j.tag.window).number then s'.leaveIssued j (.resolved .issued)
    else s'.leaveCarried j (.resolved .issued) j.serial
  s'.judgePermission (s'.judged s.free [])

/-- The entry of a blank resolved SPOILED: reason OFFICE, its place, tag and minute kept (R122). -/
def ExcEntry.spoil (e : ExcEntry) : ExcEntry := { e with disposition := .spoiled, reason := .office }

/-- A job resolved SPOILED (R122). -/
def State.resolveSpoiled (s : State) (j : Job) : State :=
  let entries := s.exceptions.map fun e => if e.doubtOf j then e.spoil else e
  ({ s with exceptions := entries }.countSpoiled j.stock).leaveCarried j (.resolved .spoiled) j.serial

def State.takeResolve (s : State) (w : Byte) (n : JobNo) (r : Byte) : Taken :=
  match windowOf w, resolutionOf r with
  | some w, some r =>
    match s.findJob ⟨w, n⟩ with
    | none => s.refuse 25 .unknownJob
    | some j =>
      if j.state ≠ .inDoubt then s.refuse 25 .wrongState
      else
        let s := match r with
          | .issued => s.resolveIssued j
          | .spoiled => s.resolveSpoiled j
        (s.pumpWindow w).accept 25 (.resolved j.tag j.serial r j.total)
  | _, _ => s.refuse 25 .badValue

def execResolve (w : Byte) (n : JobNo) (r : Byte) (s : State) : Outcome State Fault Refusal :=
  .next (s.receive .office 25 fun s => s.takeResolve w n r)

/-- The IN_DOUBT jobs of a window, in acceptance order. -/
def State.doubtful (s : State) (w : Window) : List Job :=
  s.jobs.filter fun j => j.tag.window = w ∧ j.state = .inDoubt

def State.takeResolveWindow (s : State) (w : Byte) : Taken :=
  match windowOf w with
  | none => s.refuse 26 .badValue
  | some w =>
    let js := s.doubtful w
    ((js.foldl State.resolveSpoiled s).pumpWindow w).accept 26 (.count js.length)

def execResolveWindow (w : Byte) (s : State) : Outcome State Fault Refusal :=
  .next (s.receive .office 26 fun s => s.takeResolveWindow w)

end Sys2Proof.Machine
end

