-- ==== Sys2Proof/Machine/LineEvents.lean ====
section
/-! DEFINITION. The turns of the printer line (R93 to R105): a POLL, PRINT or CLEAR sent, a good reply taken, a turn
missed. -/

namespace Sys2Proof.Machine

open Host (Outcome)

/-! ### A turn begins (R93 to R95) -/

/-- The printer visited after this one (R93). -/
def nextPrinter : Printer → Printer
  | .p1 => .p2 | .p2 => .p3 | .p3 => .p4 | .p4 => .p1

/-- The acknowledgement a command to a printer carries (R95). -/
def LineRec.ack (r : LineRec) : Ack := ⟨r.lastTaken, !r.synced⟩

/-- Whether a turn can begin: no start in course, main supply present, and no turn in progress (R93, R199). -/
def State.lineFree (s : State) : Bool := s.power = .running ∧ s.turn = none

/-- The pending command of the printer at the rotation position. -/
def State.waiting (s : State) : Option PendingCmd := (s.lineRec s.rotation).pendingCmd

/-- The turn with the printer at the rotation position begins with a command, and nothing is heard in its reply window yet
(R93). -/
def State.beginTurn (s : State) (c : TurnCmd) (live : Bool) : State :=
  { s with turn := some ⟨s.rotation, (s.lineRec s.rotation).ack, c, live⟩, heard := [] }

/-- A turn begins with a POLL where no command is pending (R93). -/
def execPoll (s : State) : Outcome State Fault Refusal :=
  .next (if s.lineFree ∧ s.waiting = none then s.beginTurn .poll false else s)

/-- The first sending of a job's PRINT starts the FEEDING stage; a repeat does not restart it (R109). Where a late FED has
already made the job PRINTING, its timing runs on: the model's choice (notes/assumptions 17). -/
def State.firstSent (s : State) (p : Printer) : State :=
  if (s.printer p).timer = none then s.startTimer p .feeding Config.feedingLimit else s

/-- A pending PRINT is sent: its trace entry, and the stage timer at the first sending (R105, R106, R109). -/
def State.sendPrint (s : State) (c : PrintCmd) : State :=
  let p := s.rotation
  ((s.beginTurn (.print c) true).trace p .print (some c.tag) (some c.expected)).firstSent p

/-- A turn sends the pending PRINT (R93, R105). -/
def execPrint (s : State) : Outcome State Fault Refusal :=
  .next
    (if s.lineFree then
      match s.waiting with
      | some (.print c) => s.sendPrint c
      | some .clear | none => s
    else s)

/-- A turn sends the pending CLEAR, with its trace entry (R93, R95, R106). -/
def execClear (s : State) : Outcome State Fault Refusal :=
  .next
    (if s.lineFree ∧ s.waiting = some .clear then (s.beginTurn .clear true).trace s.rotation .clear none none else s)

/-- A turn ends: the rotation moves on, and the window links carry the notices now due (R93, R185). -/
def State.endTurn (s : State) : State :=
  { s with turn := none, heard := [], rotation := nextPrinter s.rotation }.pumpWindows

/-! ### Events of a good reply (R98 to R100) -/

/-- A taken event writes its trace entry and is handed on (R100, R106). -/
def State.takeEvent (s : State) (p : Printer) : Event → State
  | .fed t x => (s.trace p .fed (some t) x).takeFed p t x
  | .printed t => (s.trace p .printed (some t) none).takePrinted p t
  | .ejected t => (s.trace p .ejected (some t) none).takeEjected p t
  | .fault k t => (s.trace p (.fault k) t none).takeFault p k t
  | .magOpen k => (s.trace p (.magOpen k) none none).takeMagOpen p k
  | .magClosed k x => (s.trace p (.magClosed k) none x).takeMagClosed p k x

/-- An event taken: the last-taken number becomes its number (R98). -/
def State.takeNumbered (s : State) (p : Printer) (n : EventNo) (e : Event) : State :=
  (s.modLine p fun r => { r with lastTaken := n }).takeEvent p e

/-- Whether an event is new: its distance from the last-taken number is 1 to 4 (R98). -/
def isNew (n last : EventNo) : Bool := n - last ≠ 0 ∧ (n - last).toNat ≤ 4

/-- The events of a reply gone through in order (R98). -/
def State.takeEvents (s : State) (p : Printer) : List (EventNo × Event) → State
  | [] => s
  | (n, e) :: es =>
    if isNew n (s.lineRec p).lastTaken then takeEvents (s.takeNumbered p n e) p es else takeEvents s p es

/-- The line record of a printer is synchronised, with a last-taken number (R99). -/
def State.synchronise (s : State) (p : Printer) (n : EventNo) : State :=
  s.modLine p fun r => { r with lastTaken := n, synced := true }

/-- The events of a good reply, in resync fashion where the synchronised mark is absent (R98, R99). -/
def State.takeReplyEvents (s : State) (p : Printer) (r : Status) : State :=
  if (s.lineRec p).synced then s.takeEvents p r.events
  else match r.events with
    | [] => s.synchronise p r.newest
    | (n, e) :: es => ((s.synchronise p n).takeEvent p e).takeEvents p es

/-! ### A good reply and a miss (R101, R103, R104) -/

/-- A magazine shown empty is judged (R54). -/
def State.judgeEmpty (s : State) (m : MagId) (shown : Bool) : State := if shown then s.takeEmptyShown m else s

/-- Whether a reply answers the CLEAR given under the return mark (R85, R94). -/
def State.answersClear (s : State) (u : Turn) : Bool := u.cmd = .clear ∧ (s.printer u.printer).returnMark

/-- Whether the turn's command is still the printer's pending command (R94, R101). -/
def State.turnLive (s : State) : Bool := s.turn.any (·.live)

/-- The pending command answered: it becomes none, and permission is judged for the staged job (R78, R94). -/
def State.answered (s : State) (p : Printer) : State :=
  if s.turnLive then (s.dropPending p).judgePermission [p] else s

/-- A good reply taken, by the four steps of R101; the turn then ends (R93). -/
def State.takeReply (s : State) (u : Turn) (raw : StatusReply) (r : Status) : State :=
  let p := u.printer
  let s := s.modLine p fun x => { x with misses := 0, lastMarks := some ⟨raw.marks, raw.latched⟩ }
  let s := s.takeReplyEvents p r
  let s := (s.judgeEmpty ⟨p, .ticket⟩ r.emptyTicket).judgeEmpty ⟨p, .coupon⟩ r.emptyCoupon
  let s := s.judgeMarks p (s.answersClear u) r.latched r.cover
  (s.answered p).endTurn

/-- The tag a MISS entry carries: the PRINT's, when a PRINT was missed (R103). -/
def TurnCmd.tag : TurnCmd → Option Tag
  | .print c => some c.tag
  | .poll | .clear => none

/-- A turn missed: the miss count, the MISS entry, and NO_RESPONSE at the third consecutive miss (R103, R104). -/
def State.takeMiss (s : State) (u : Turn) (c : MissCause) : State :=
  let p := u.printer
  let before := (s.lineRec p).misses
  let s := s.modLine p fun r => { r with misses := min (r.misses + 1) 3 }
  let s := s.trace p (.miss c) u.cmd.tag none
  (if before = 2 then s.noResponse p else s).endTurn

/-- A reply complete in the window with a good frame: a body of the form of R97 is a good reply, any other a FORM miss
(R96, R97, R101). -/
def execGoodReply (r : StatusReply) (s : State) : Outcome State Fault Refusal :=
  .next
    (match s.turn with
    | none => s
    | some u =>
      match typeReply r with
      | some v => s.takeReply u r v
      | none => s.takeMiss u .form)

/-- A turn ends without a good reply (R103). -/
def execMiss (c : MissCause) (s : State) : Outcome State Fault Refusal :=
  .next
    (match s.turn with
    | some u => s.takeMiss u c
    | none => s)

end Sys2Proof.Machine
end

