-- ==== Sys2Proof/Machine/LinkEvents.lean ====
section
/-! DEFINITION. The events of the seven links that are no request: unknown kinds, bad messages, overruns, gaps, messages
during a start, a message wholly sent, and the ready inputs (R179 to R182, R185, R199). -/

namespace Sys2Proof.Machine

open Host (Outcome)

/-- A good message whose kind the link does not take, or whose body is not of the length its kind calls for, is answered
BAD_FORM (R181). -/
def execUnknownKind (l : Link) (kind : Byte) (s : State) : Outcome State Fault Refusal :=
  .next (s.receive l kind fun s => s.refuse kind .badForm)

/-- Whether a link's receiver takes bytes as messages: not without main supply, nor while it discards until a gap
(R180). -/
def State.receiving (s : State) (l : Link) : Bool := s.power ≠ .off ∧ (s.link l).discarding = false

/-- The receiver discards every byte until a gap (R180). -/
def State.discardUntilGap (s : State) (l : Link) : State := s.modLink l fun r => { r with discarding := true }

/-- A message discarded for its check, a stop bit or its length: a LINE refusal is owed, and after a length above 120
every byte is discarded until a gap (R180, R182). -/
def execLine (l : Link) (cause : LineCause) (s : State) : Outcome State Fault Refusal :=
  .next
    (if s.receiving l then
      match cause with
      | .badCheck | .badStopBit => s.owe l .line
      | .tooLong => (s.discardUntilGap l).owe l .line
    else s)

/-- A good message that finds two held requests is discarded, and an OVERRUN refusal is owed (R182). -/
def execOverrun (l : Link) (s : State) : Outcome State Fault Refusal :=
  .next (if s.receiving l ∧ Config.maxHeld ≤ (s.link l).countKind .held then s.owe l .overrun else s)

/-- A gap of more than 20 ms: the partial message is discarded without a reply, and a receiver that was discarding
starts a message with the next byte (R180). -/
def execGapDiscard (l : Link) (s : State) : Outcome State Fault Refusal :=
  .next (s.modLink l fun r => { r with arriving := [], discarding := false })

/-- Whether a start is in course. -/
def Power.isStarting : Power → Bool
  | .starting _ => true
  | .off | .running => false

/-- A good message that completes while a start is in course: a held request with the refusal WRONG_STATE (R199). -/
def execRequestDuringStart (l : Link) (kind : Byte) (s : State) : Outcome State Fault Refusal :=
  .next (if s.power.isStarting then s.receive l kind fun s => s.refuse kind .wrongState else s)

/-- A link when the last byte of its message has gone: a reply leaves the reply order (R182). -/
def LinkRec.sent (r : LinkRec) : LinkRec :=
  match r.sending with
  | some (.reply _) => { r with order := r.order.drop 1, sending := none }
  | some (.notice _) => { r with sending := none }
  | none => r

/-- The last byte of a reply or notice leaves a link, and the transmitter is free for arbitration (R182, R185). -/
def execTransmitComplete (l : Link) (s : State) : Outcome State Fault Refusal :=
  .next (if (s.link l).sending.isSome then (s.modLink l LinkRec.sent).pump l else s)

/-- A terminal asserts its ready input; a waiting message may begin (R179, R185). -/
def execLinkReadyAsserted (l : Link) (s : State) : Outcome State Fault Refusal :=
  .next ((s.modLink l fun r => { r with ready := true }).pump l)

/-- A terminal releases its ready input; a message already begun is sent whole (R179). -/
def execReadyInputFalls (l : Link) (s : State) : Outcome State Fault Refusal :=
  .next (s.modLink l fun r => { r with ready := false })

end Sys2Proof.Machine
end

