-- ==== Sys2Proof/Machine/ShiftRequests.lean ====
section
/-! DEFINITION. The requests about shifts, profiles and cash-up: OPEN SHIFT, CLOSE SHIFT, DECLARE, DECLARE END,
CLEAR / SET / TOGGLE / TEST FLAGS, SET LIMIT, FORCE CLOSE, LATCH, READ LATCHED, SET TOLERANCE, COLLECT and RELEASE
(R147 to R149, R152 to R154, R161, R162, R166, R167, R169, R176, R177). -/

namespace Sys2Proof.Machine

open Host (Outcome)

/-! ### OPEN SHIFT and CLOSE SHIFT (R152, R153) -/

/-- A shift record opened anew; the active count and the next job number stay (R152). -/
def ShiftRec.openNew (h : ShiftRec) (clerk float : Nat) (c : Stamp) : ShiftRec :=
  { h with
    state := .opened, number := h.number + 1, clerk := some clerk, float := float, openStamp := some c
    closeStamp := none, tallies := .zero, sticky := .none, staged := .absent, declared := .absent
    ended := false, forced := false }

/-- A window at the opening of a shift: the recent issue list is emptied, its references and a shift notice are dropped
unsent (R36, R152, R157). -/
def WindowRec.openNew (r : WindowRec) (clerk float : Nat) (c : Stamp) : WindowRec :=
  { r with
    shift := r.shift.openNew clerk float c
    recent := []
    notices := dropRef (r.notices.filter (!·.isRecent)) .shift }

def State.takeOpenShift (s : State) (w : Window) (clerk : Half) (float : Three) : Taken :=
  if clerk.toNat = 0 ∨ 9999 < clerk.toNat ∨ 999999 < float.toNat then s.refuse 6 .badValue
  else match (s.shift w).state with
    | .closed =>
      let s := s.modWindow w fun r => r.openNew clerk.toNat float.toNat s.clock
      s.accept 6 (.opened (s.shift w).number clerk.toNat s.clock)
    | .listWait => s.refuse 6 .backlog
    | .opened | .closing | .declaring => s.refuse 6 .shiftState

def execOpenShift (w : Window) (clerk : Half) (float : Three) (s : State) : Outcome State Fault Refusal :=
  .next (s.receive (.window w) 6 fun s => s.takeOpenShift w clerk float)

/-- The state of a shift that has closed with this many active jobs (R153). -/
def closedState (active : Nat) : ShiftState := if 0 < active then .closing else .declaring

def State.takeCloseShift (s : State) (w : Window) : Taken :=
  if (s.shift w).state ≠ .opened then s.refuse 7 .shiftState
  else
    let c := s.clock
    let s := s.modShift w fun h => { h with state := closedState h.active, closeStamp := some c }
    (s.notifyShift w none).accept 7 (.shift (s.shift w).state (s.shift w).active)

def execCloseShift (w : Window) (s : State) : Outcome State Fault Refusal :=
  .next (s.receive (.window w) 7 fun s => s.takeCloseShift w)

/-! ### Declarations (R166, R167) -/

/-- Whether a shift takes declarations (R166, R167). -/
def ShiftRec.declares (h : ShiftRec) : Bool := (h.state = .closing ∨ h.state = .declaring) ∧ h.ended = false

def State.takeDeclare (s : State) (w : Window) (tender : Byte) (amount : Four) : Taken :=
  match tenderOf tender with
  | none => s.refuse 8 .badValue
  | some t =>
    if Config.maxAmount < amount.toNat then s.refuse 8 .badValue
    else if !(s.shift w).declares then s.refuse 8 .shiftState
    else
      let s := s.modShift w fun h => { h with staged := h.staged.set t (some amount.toNat) }
      s.accept 8 (.staged (s.shift w).staged)

def execDeclare (w : Window) (tender : Byte) (amount : Four) (s : State) : Outcome State Fault Refusal :=
  .next (s.receive (.window w) 8 fun s => s.takeDeclare w tender amount)

/-- The overall result a shift's cash-up gives at this moment (R172). -/
def State.overallNow (s : State) (w : Window) : Overall := (cashUpOf w (s.shift w) s.tolerance).overall

def State.takeDeclareEnd (s : State) (w : Window) : Taken :=
  if !(s.shift w).declares then s.refuse 9 .shiftState
  else
    let s := s.modShift w fun h => { h with declared := h.staged, ended := true }
    if (s.shift w).state = .declaring ∨ (s.shift w).active = 0 then
      let result := s.overallNow w
      let s := s.compute w
      s.accept 9 (.computed (s.shift w).state result)
    else (s.notifyShift w none).accept 9 (.shift .closing (s.shift w).active)

def execDeclareEnd (w : Window) (s : State) : Outcome State Fault Refusal :=
  .next (s.receive (.window w) 9 fun s => s.takeDeclareEnd w)

/-! ### Flags and the limit (R147 to R149) -/

/-- The form checks of a flag request: a window 1 to 6 and a set of nine flags (BAD_VALUE), not empty (BAD_FORM)
(R147). -/
def flagOperands (w : Byte) (f : Half) : Except Code (Window × BitVec 9) :=
  match windowOf w, flagSetOf f with
  | some w, some f => if f = 0 then .error .badForm else .ok (w, f)
  | _, _ => .error .badValue

/-- A flag update, which is a dispatch opportunity whether or not it changed a flag (R73, R147). -/
def State.takeFlags (s : State) (kind : Byte) (w : Byte) (f : Half) (op : BitVec 9 → BitVec 9 → BitVec 9) : Taken :=
  match flagOperands w f with
  | .error code => s.refuse kind code
  | .ok (w, f) =>
    let s := s.modWindow w fun r => { r with profile := { r.profile with flags := op r.profile.flags f } }
    (s.opportunity []).accept kind (.flags (s.window w).profile.flags)

def execClearFlags (w : Byte) (f : Half) (s : State) : Outcome State Fault Refusal :=
  .next (s.receive .office 48 fun s => s.takeFlags 48 w f clearBits)

def execSetFlags (w : Byte) (f : Half) (s : State) : Outcome State Fault Refusal :=
  .next (s.receive .office 49 fun s => s.takeFlags 49 w f setBits)

def execToggleFlags (w : Byte) (f : Half) (s : State) : Outcome State Fault Refusal :=
  .next (s.receive .office 50 fun s => s.takeFlags 50 w f toggleBits)

def State.takeTestFlags (s : State) (w : Byte) (f : Half) : Taken :=
  match flagOperands w f with
  | .error code => s.refuse 51 code
  | .ok (w, f) =>
    let flags := (s.window w).profile.flags
    s.accept 51 (.tested (testBits flags f) flags)

def execTestFlags (w : Byte) (f : Half) (s : State) : Outcome State Fault Refusal :=
  .next (s.receive .office 51 fun s => s.takeTestFlags w f)

def State.takeSetLimit (s : State) (w : Byte) (limit : Three) : Taken :=
  match windowOf w with
  | none => s.refuse 52 .badValue
  | some w =>
    let v := clamp 0 Config.maxTotal limit.toNat
    (s.modWindow w fun r => { r with profile := { r.profile with limit := v } }).accept 52 (.limit v)

def execSetLimit (w : Byte) (limit : Three) (s : State) : Outcome State Fault Refusal :=
  .next (s.receive .office 52 fun s => s.takeSetLimit w limit)

/-! ### FORCE CLOSE (R154) -/

/-- A shift record whose declaration a FORCE CLOSE has ended (R154). -/
def ShiftRec.force (h : ShiftRec) (c : Stamp) : ShiftRec :=
  { h with
    closeStamp := if h.state = .opened then some c else h.closeStamp
    staged := if h.ended then h.staged else .absent
    declared := if h.ended then h.declared else .absent
    ended := true, forced := true }

def State.takeForceClose (s : State) (w : Byte) : Taken :=
  match windowOf w with
  | none => s.refuse 53 .badValue
  | some w =>
    match (s.shift w).state with
    | .closed | .listWait => s.refuse 53 .shiftState
    | .opened | .closing | .declaring =>
      if (s.shift w).ended ∧ (s.shift w).forced then
        s.accept 53 (.shift (s.shift w).state (s.shift w).active)
      else
        let c := s.clock
        let s := s.modShift w fun h => h.force c
        let s :=
          if 0 < (s.shift w).active then
            (s.modShift w fun h => { h with state := .closing }).notifyShift w none
          else s.compute w
        (s.pumpWindow w).accept 53 (.shift (s.shift w).state (s.shift w).active)

def execForceClose (w : Byte) (s : State) : Outcome State Fault Refusal :=
  .next (s.receive .office 53 fun s => s.takeForceClose w)

/-! ### Latched snapshots (R161, R162) -/

/-- The place of a window in the wait order, 1 for the head. -/
def State.waitPosition (s : State) (w : Window) : Option Nat := (s.waitOrder.findIdx? (· = w)).map (· + 1)

/-- A snapshot of a window's shift record (R161). -/
def State.snapshotFor (s : State) (w : Window) (part : LatchPart) : Snapshot :=
  let h := s.shift w
  { window := w, shift := h.number, stamp := s.clock, part := part
    tallies := if part = .state then none else some (h.tallies, h.sticky)
    state := if part = .tallies then none else
      some ⟨h.state, h.clerk, h.float, h.openStamp, h.closeStamp, h.active, h.ended, h.forced, s.waitPosition w⟩ }

/-- Whether a LATCH gives a window a new snapshot (R161). -/
def State.latchResult (s : State) (w : Window) : LatchResult :=
  if (s.window w).snapshot.isSome then .kept else .latched

/-- One window latched, unless it holds an unread snapshot (R161). -/
def State.latchWindow (part : LatchPart) (s : State) (w : Window) : State :=
  let v := s.snapshotFor w part
  s.modWindow w fun r => { r with snapshot := some (r.snapshot.getD v) }

/-- LATCH (R161). That the reply lists the named windows by window number is the model's choice (notes/assumptions 16). -/
def State.takeLatch (s : State) (windows part : Byte) : Taken :=
  match windowSetOf windows, latchPartOf part with
  | some ws, some part =>
    if ws.isEmpty then s.refuse 54 .badForm
    else (ws.foldl (State.latchWindow part) s).accept 54 (.latched (ws.map fun w => (w, s.latchResult w)))
  | _, _ => s.refuse 54 .badValue

def execLatch (windows part : Byte) (s : State) : Outcome State Fault Refusal :=
  .next (s.receive .office 54 fun s => s.takeLatch windows part)

def State.takeReadLatched (s : State) (w : Byte) : Taken :=
  match windowOf w with
  | none => s.refuse 55 .badValue
  | some w =>
    match (s.window w).snapshot with
    | none => s.refuse 55 .latchEmpty
    | some v => (s.modWindow w fun r => { r with snapshot := none }).accept 55 (.snapshot v)

def execReadLatched (w : Byte) (s : State) : Outcome State Fault Refusal :=
  .next (s.receive .office 55 fun s => s.takeReadLatched w)

/-! ### Tolerance, COLLECT and RELEASE (R169, R176, R177) -/

/-- A required-mark field: absent when every bit is set, else a mark; `none` for a code that is neither (R169). -/
def requiredOf (b : Byte) : Option (Option Bool) := if b = 255 then some none else (markOf b).map some

/-- A tolerance row with the fields carried, clamped (R169). -/
def Tolerance.carry (t : Tolerance) (low high : Option Int) (required : Option Bool) : Tolerance :=
  { low := low.elim t.low (clampInt (-Config.maxTolerance) 0)
    high := high.elim t.high (clampInt 0 Config.maxTolerance)
    required := required.getD t.required }

def State.takeSetTolerance (s : State) (tender : Byte) (low high : Four) (required : Byte) : Taken :=
  match tenderOf tender, requiredOf required with
  | some t, some req =>
    let lo := presentSigned low
    let hi := presentSigned high
    if lo = none ∧ hi = none ∧ req = none then s.refuse 58 .badForm
    else
      let row := (s.tolerance.get t).carry lo hi req
      { s with tolerance := s.tolerance.set t row }.accept 58 (.tolerance row)
  | _, _ => s.refuse 58 .badValue

def execSetTolerance (tender : Byte) (low high : Four) (required : Byte) (s : State) :
    Outcome State Fault Refusal :=
  .next (s.receive .office 58 fun s => s.takeSetTolerance tender low high required)

/-- A cash-up list with the collected mark of one record set (R176). -/
def markCollected (l : List CashUp) (w : Window) (n : ShiftNo) : List CashUp :=
  l.map fun x => if x.isOf w n then { x with collected := true } else x

/-- The record found is returned with its collected mark set (R176). -/
def State.collectRecord (s : State) (r : CashUp) : Taken :=
  { s with cashUps := markCollected s.cashUps r.window r.shift }.accept 59 (.cashUp { r with collected := true })

def State.takeCollect (s : State) (mode : Byte) (key : Option (Byte × ShiftNo)) : Taken :=
  match collectModeOf mode, key with
  | none, _ => s.refuse 59 .badValue
  | some .oldest, some _ | some .named, none => s.refuse 59 .badForm
  | some .oldest, none =>
    match s.cashUps.find? (!·.collected) with
    | some r => s.collectRecord r
    | none => s.refuse 59 .unknownJob
  | some .named, some (w, n) =>
    match windowOf w with
    | none => s.refuse 59 .badValue
    | some w =>
      match s.cashUps.find? (·.isOf w n) with
      | some r => s.collectRecord r
      | none => s.refuse 59 .unknownJob

def execCollect (mode : Byte) (key : Option (Byte × ShiftNo)) (s : State) : Outcome State Fault Refusal :=
  .next (s.receive .office 59 fun s => s.takeCollect mode key)

def State.takeRelease (s : State) (w : Byte) (n : ShiftNo) : Taken :=
  match windowOf w with
  | none => s.refuse 60 .badValue
  | some w =>
    match s.cashUps.find? (·.isOf w n) with
    | none => s.refuse 60 .unknownJob
    | some r =>
      if !r.collected then s.refuse 60 .notCollected
      else
        let s := { s with cashUps := s.cashUps.filter fun x => !x.isOf w n }
        let (ws, s) := State.admitWaiting s.waitOrder.length s
        (ws.foldl State.pumpWindow s).accept 60 (.released w n s.cashUps.length ws)

def execRelease (w : Byte) (n : ShiftNo) (s : State) : Outcome State Fault Refusal :=
  .next (s.receive .office 60 fun s => s.takeRelease w n)

end Sys2Proof.Machine
end

