-- ==== Sys2Proof/Machine/StockRequests.lean ====
section
/-! DEFINITION. The requests about stock, printers and the fault log: LOAD PACK, UNLOAD, HOLD, REINSTATE, SET STOCK,
SET PRINTER, SET ROUTE, WITHDRAW, RETURN, FLUSH PRINTER, CLEAR PRINTER, SET LEAD and ACKNOWLEDGE (R48 to R51, R61, R71,
R72, R81 to R84, R140, R141). -/

namespace Sys2Proof.Machine

open Host (Outcome)

/-! ### LOAD PACK and UNLOAD (R48, R49) -/

/-- Whether a pack shares a serial with the pack of another non-EMPTY magazine of its stock type (R48). -/
def State.packOverlaps (s : State) (m : MagId) (k : Pack) : Bool :=
  allMags.any fun x => x ≠ m && x.stock = m.stock && (s.mag x).pack.any k.overlaps

/-- A magazine in which a pack has been recorded (R48, R62). -/
def loadedMag (k : Pack) (settings : StockSettings) : Magazine :=
  Magazine.judgeLow
    { state := .pending, notSighted := true, pack := some k, committed := 0, counter := settings.reload
      sightDue := false, low := false } settings.threshold

/-- The pack recorded; a pending reload value becomes the reload value first (R48, R61). -/
def State.loadPack (s : State) (m : MagId) (k : Pack) : State :=
  let s := s.modStock m.stock StockSettings.takePending
  s.modMag m fun _ => loadedMag k (s.stock.get m.stock)

def State.takeLoadPack (s : State) (mag : Byte) (first : Three) (count : Half) : Taken :=
  match magOf mag with
  | none => s.refuse 30 .badValue
  | some m =>
    let k : Pack := ⟨first.toNat, first.toNat + count.toNat - 1, first.toNat⟩
    if Config.maxSerial < first.toNat ∨ count.toNat = 0 ∨ Config.maxPack < count.toNat ∨ Config.maxSerial < k.last then
      s.refuse 30 .badValue
    else if (s.mag m).state ≠ .empty then s.refuse 30 .inUse
    else if s.packOverlaps m k then s.refuse 30 .overlap
    else
      let s := s.loadPack m k
      s.accept 30 (.magazine m (s.mag m))

def execLoadPack (mag : Byte) (first : Three) (count : Half) (s : State) : Outcome State Fault Refusal :=
  .next (s.receive .office 30 fun s => s.takeLoadPack mag first count)

/-- Whether an entry belongs to a pack (R49). -/
def ExcEntry.ofPack (e : ExcEntry) (x : Stock) (k : Pack) : Bool := e.stock = x && k.holds e.serial

/-- The pack account of a magazine (R49). -/
def State.packAccount (s : State) (m : MagId) (r : Magazine) (k : Pack) : PackAccount :=
  let es := s.exceptions.filter (·.ofPack m.stock k)
  let spoiled := es.countP (·.disposition = .spoiled)
  let voided := es.countP (·.disposition = .voided)
  ⟨m, r.state, k, k.drawn, spoiled, voided, k.drawn - spoiled - voided, k.remaining, r.notSighted⟩

/-- A magazine unloaded; its audit counter stays (R49). -/
def Magazine.unloaded (r : Magazine) : Magazine :=
  { r with state := .empty, pack := none, notSighted := false, sightDue := false, low := false }

/-- The unloading of a magazine with its pack's exception entries (R49). -/
def State.unloadMag (s : State) (m : MagId) (k : Pack) : State :=
  { s with exceptions := s.exceptions.filter fun e => !e.ofPack m.stock k }.modMag m Magazine.unloaded

def State.takeUnload (s : State) (mag : Byte) : Taken :=
  match magOf mag with
  | none => s.refuse 31 .badValue
  | some m =>
    let r := s.mag m
    match r.state, r.pack with
    | .empty, _ | _, none => s.refuse 31 .wrongState
    | _, some k =>
      if s.magInUse m k then s.refuse 31 .inUse
      else
        let s' := s.unloadMag m k
        (s'.judgePermission (s'.judged s.free [])).accept 31 (.account (s.packAccount m r k))

def execUnload (mag : Byte) (s : State) : Outcome State Fault Refusal :=
  .next (s.receive .office 31 fun s => s.takeUnload mag)

/-! ### HOLD and REINSTATE (R50, R51) -/

def State.takeHold (s : State) (mag : Byte) : Taken :=
  match magOf mag with
  | none => s.refuse 32 .badValue
  | some m =>
    match (s.mag m).state with
    | .active =>
      let s := s.leaveActive m (.held .office)
      s.accept 32 (.magazine m (s.mag m))
    | .pending =>
      let s := s.moveMag m (.held .office)
      s.accept 32 (.magazine m (s.mag m))
    | .empty | .held _ | .discrepant | .exhausted => s.refuse 32 .wrongState

def execHold (mag : Byte) (s : State) : Outcome State Fault Refusal :=
  .next (s.receive .office 32 fun s => s.takeHold mag)

/-- The record of a HELD magazine reinstated (R51). -/
def Magazine.reinstate (r : Magazine) : Magazine :=
  { r with state := if 0 < r.remaining then .active else .exhausted, notSighted := false }

def State.takeReinstate (s : State) (mag : Byte) : Taken :=
  match magOf mag with
  | none => s.refuse 33 .badValue
  | some m =>
    if (s.mag m).isHeld then
      let s := s.modMag m Magazine.reinstate
      let s := if (s.mag m).state = .active then s.opportunity [] else s
      s.accept 33 (.magazine m (s.mag m))
    else s.refuse 33 .wrongState

def execReinstate (mag : Byte) (s : State) : Outcome State Fault Refusal :=
  .next (s.receive .office 33 fun s => s.takeReinstate mag)

/-! ### SET STOCK (R61, R62) -/

/-- Whether a magazine of a stock type is counting (R61). -/
def State.typeCounting (s : State) (k : Stock) : Bool :=
  allPrinters.any fun p => counting (s.mag ⟨p, k⟩) (s.stock.get k)

/-- Change every magazine of a stock type. -/
def State.modType (s : State) (k : Stock) (f : Magazine → Magazine) : State :=
  allPrinters.foldl (fun s p => s.modMag ⟨p, k⟩ f) s

/-- A counter loaded in a non-EMPTY magazine (R61). -/
def Magazine.loadCounter (v : Nat) (r : Magazine) : Magazine := if r.state = .empty then r else { r with counter := v }

/-- A new reload value: latched as pending while a magazine of the type is counting, else taken at once (R61). -/
def State.setReload (s : State) (k : Stock) (v : Nat) : State :=
  if s.typeCounting k then s.modStock k fun r => { r with pendingReload := some v }
  else (s.modStock k fun r => { r with reload := v, pendingReload := none }).modType k (Magazine.loadCounter v)

/-- A new low threshold: every low mark of the type is judged anew (R62). -/
def State.setThreshold (s : State) (k : Stock) (v : Nat) : State :=
  (s.modStock k fun r => { r with threshold := v }).modType k fun r => r.judgeLow v

def State.takeSetStock (s : State) (stock : Byte) (reload threshold : Half) : Taken :=
  match stockOf stock with
  | none => s.refuse 34 .badValue
  | some k =>
    if present reload = none ∧ present threshold = none then s.refuse 34 .badForm
    else
      let s := (present reload).elim s fun v => s.setReload k (clamp 0 Config.maxReload v)
      let s := (present threshold).elim s fun v => s.setThreshold k (clamp 0 Config.maxThreshold v)
      let r := s.stock.get k
      s.accept 34 (.stockSet r.reload r.pendingReload r.threshold)

def execSetStock (stock : Byte) (reload threshold : Half) (s : State) : Outcome State Fault Refusal :=
  .next (s.receive .office 34 fun s => s.takeSetStock stock reload threshold)

/-! ### SET PRINTER and SET ROUTE (R71, R72) -/

/-- The pacing settings carried by a SET PRINTER, clamped (R71). -/
def PrinterRec.setPacing (r : PrinterRec) (base multiplier changeover : Option Nat) : PrinterRec :=
  { r with
    base := base.elim r.base (clamp 0 7)
    multiplier := multiplier.elim r.multiplier (clamp 1 2)
    changeover := changeover.elim r.changeover (clamp 0 15) }

def State.takeSetPrinter (s : State) (printer base multiplier changeover : Byte) : Taken :=
  match printerOf printer with
  | none => s.refuse 38 .badValue
  | some p =>
    let b := present base
    let m := present multiplier
    let c := present changeover
    if b = none ∧ m = none ∧ c = none then s.refuse 38 .badForm
    else
      let s := s.modPrinter p fun r => r.setPacing b m c
      let r := s.printer p
      (s.judgePermission [p]).accept 38 (.pacing r.base r.multiplier r.changeover)

def execSetPrinter (printer base multiplier changeover : Byte) (s : State) : Outcome State Fault Refusal :=
  .next (s.receive .office 38 fun s => s.takeSetPrinter printer base multiplier changeover)

/-- The route a SET ROUTE carries; `none` for a bad printer number or an alternate equal to the home (R72). -/
def routeOf (home alternate : Byte) : Option Route :=
  match printerOf home with
  | none => none
  | some h =>
    if alternate = 255 then some ⟨h, none⟩
    else match printerOf alternate with
      | some a => if a = h then none else some ⟨h, some a⟩
      | none => none

def State.takeSetRoute (s : State) (window home alternate : Byte) : Taken :=
  match windowOf window, routeOf home alternate with
  | some w, some r => ({ s with routes := s.routes.set w r }.opportunity []).accept 39 (.route r)
  | _, _ => s.refuse 39 .badValue

def execSetRoute (window home alternate : Byte) (s : State) : Outcome State Fault Refusal :=
  .next (s.receive .office 39 fun s => s.takeSetRoute window home alternate)

/-! ### WITHDRAW, RETURN, FLUSH PRINTER and CLEAR PRINTER (R81 to R84) -/

/-- A printer taken out of use: its capture closes short, its staged job returns (R81, R139). -/
def State.withdrawPrinter (s : State) (p : Printer) : State :=
  let staged := (s.printer p).staged.isSome
  let s := (s.modPrinter p fun r => { r with state := .withdrawn, returnMark := false }).returnStaged p
  let s := { s with faults := s.faults.closeShort p }
  if staged then s.opportunity [] else s

def State.takeWithdraw (s : State) (printer : Byte) : Taken :=
  match printerOf printer with
  | none => s.refuse 40 .badValue
  | some p =>
    if (s.printer p).state = .withdrawn then s.refuse 40 .wrongState
    else
      let s := s.withdrawPrinter p
      s.accept 40 (.printerRecord p (s.printer p))

def execWithdraw (printer : Byte) (s : State) : Outcome State Fault Refusal :=
  .next (s.receive .office 40 fun s => s.takeWithdraw printer)

/-- The return mark is set and a CLEAR is given, at once or after a pending PRINT; a mark already present asks for no
second CLEAR (R82). -/
def State.markReturn (s : State) (p : Printer) : State :=
  if (s.printer p).returnMark then s else (s.modPrinter p fun r => { r with returnMark := true }).giveClear p

/-- Whether a RETURN may be given to a printer of this state (R82). -/
def PrinterState.returnable : PrinterState → Bool
  | .withdrawn | .faulted _ => true
  | .ready | .offline => false

def State.takeReturn (s : State) (printer : Byte) : Taken :=
  match printerOf printer with
  | none => s.refuse 41 .badValue
  | some p =>
    if (s.printer p).state.returnable then
      let s := s.markReturn p
      s.accept 41 (.printerRecord p (s.printer p))
    else s.refuse 41 .wrongState

def execReturnPrinter (printer : Byte) (s : State) : Outcome State Fault Refusal :=
  .next (s.receive .office 41 fun s => s.takeReturn printer)

def State.takeFlushPrinter (s : State) (printer : Byte) : Taken :=
  match printerOf printer with
  | none => s.refuse 42 .badValue
  | some p =>
    match (s.printer p).staged with
    | some t => ((s.returnStaged p).opportunity []).accept 42 (.flushed (some t))
    | none => s.accept 42 (.flushed none)

def execFlushPrinter (printer : Byte) (s : State) : Outcome State Fault Refusal :=
  .next (s.receive .office 42 fun s => s.takeFlushPrinter printer)

/-- Whether a printer is FAULTED. -/
def PrinterState.isFaulted : PrinterState → Bool
  | .faulted _ => true
  | .offline | .ready | .withdrawn => false

def State.takeClearPrinter (s : State) (w : Window) (printer : Byte) : Taken :=
  match printerOf printer with
  | none => s.refuse 5 .badValue
  | some p =>
    if !(s.window w).profile.clearPrinter then s.refuse 5 .notPermitted
    else if (s.routes.get w).home ≠ p ∧ (s.routes.get w).alternate ≠ some p then s.refuse 5 .notPermitted
    else if !(s.printer p).state.isFaulted then s.refuse 5 .wrongState
    else
      let s := s.markReturn p
      s.accept 5 (.printerFault (s.printer p).state)

def execClearPrinter (w : Window) (printer : Byte) (s : State) : Outcome State Fault Refusal :=
  .next (s.receive (.window w) 5 fun s => s.takeClearPrinter w printer)

/-! ### The fault log (R140, R141) -/

def State.takeSetLead (s : State) (v : Byte) : Taken :=
  let v := clamp 0 Config.maxLead v.toNat
  { s with faults := { s.faults with lead := v } }.accept 44 (.value v)

def execSetLead (v : Byte) (s : State) : Outcome State Fault Refusal :=
  .next (s.receive .office 44 fun s => s.takeSetLead v)

/-- The log with its first `n` records acknowledged. -/
def FaultLog.acknowledgeUpTo (l : FaultLog) (n : Nat) : FaultLog :=
  { l with records := (l.records.take n).map FaultRecord.acknowledge ++ l.records.drop n }

/-- The log with the record of a number acknowledged. -/
def FaultLog.acknowledgeOne (l : FaultLog) (n : RecordNo) : FaultLog :=
  { l with records := l.records.map fun r => if r.number = n then r.acknowledge else r }

/-- The reply of an UP_TO acknowledgement that reaches the first `n` records: how many it makes ACKNOWLEDGED and how many
it gives the acknowledge-pending mark (R141). -/
def FaultLog.acknowledgedUpTo (l : FaultLog) (n : Nat) : Body :=
  let reached := l.records.take n
  let made := reached.countP fun r => r.state = .opened
  let marked := reached.countP fun r => r.state = .capturing ∧ r.ackPending = false
  .acknowledgedUpTo made marked

def State.takeAcknowledge (s : State) (mode : Byte) (n : RecordNo) : Taken :=
  match ackModeOf mode with
  | none => s.refuse 45 .badValue
  | some mode =>
    match s.faults.records.find? (·.number = n) with
    | none => s.refuse 45 .unknownJob
    | some r =>
      match mode with
      | .single =>
        let r := r.acknowledge
        { s with faults := s.faults.acknowledgeOne n }.accept 45 (.acknowledged n r.state r.ackPending)
      | .upTo =>
        let k := s.faults.records.findIdx (·.number = n) + 1
        { s with faults := s.faults.acknowledgeUpTo k }.accept 45 (s.faults.acknowledgedUpTo k)

def execAcknowledge (mode : Byte) (n : RecordNo) (s : State) : Outcome State Fault Refusal :=
  .next (s.receive .office 45 fun s => s.takeAcknowledge mode n)

end Sys2Proof.Machine
end

