-- ==== Sys2Proof/Machine/TimeEvents.lean ====
section
/-! DEFINITION. The events of counters, timers, the clock and the supplies (R60, R77, R109, R195 to R199). A command that
names a limit run out says that the time has come: `now` moves on to it. -/

namespace Sys2Proof.Machine

open Host (Outcome)

/-! ### The audit counter (R60) -/

/-- A counting magazine's audit counter reaches 0 (R60). -/
def execAuditCounterZero (m : MagId) (s : State) : Outcome State Fault Refusal :=
  .next (if s.power = .running ∧ counting (s.mag m) (s.stock.get m.stock) then s.auditReload m else s)

/-! ### The stage timer (R109, R113) -/

/-- The time is at least `t`. A command that brings its own moment may pass other timers' moments by: the model's choice
(notes/assumptions 4). -/
def State.reachTime (s : State) (t : Nat) : State := { s with now := max s.now t }

/-- The job in a printer's current slot. -/
def State.currentJob (s : State) (p : Printer) : Option Job := (s.printer p).current.bind fun c => s.findJob c.tag

/-- The serial of a job as a TIMEOUT entry and the NO_PROGRESS record give it: absent in FEEDING (R106, R131). -/
def Job.timedSerial (j : Job) : Option Nat := if j.state = .feeding then none else j.serial

/-- A stage expiry: the TIMEOUT entry, the NO_PROGRESS fault, and the failure of the job (R109, R113). -/
def State.expireStage (s : State) (p : Printer) (g : Stage) (j : Job) : State :=
  let fields := { s.describe p j.tag with serial := j.timedSerial }
  let s := s.trace p (.timeout g) (some j.tag) j.timedSerial
  ((s.printerFault p .noProgress fields).failJob j p .noProgress).pumpWindows

/-- The stage timer of a printer runs out (R109). -/
def execStageExpiry (p : Printer) (s : State) : Outcome State Fault Refusal :=
  .next
    (if s.power = .running then
      match (s.printer p).timer, s.currentJob p with
      | some t, some j => (s.reachTime t.limit).expireStage p t.stage j
      | _, _ => s
    else s)

/-! ### The pacing wait (R77, R78) -/

/-- The pacing wait of a printer's staged job runs out, and permission is judged (R77, R78). -/
def execPacingWaitExpiry (p : Printer) (s : State) : Outcome State Fault Refusal :=
  .next
    (if s.power = .running then
      match (s.printer p).staged.bind s.findJob with
      | some j => (((s.printer p).waitEnd j.stock).elim s s.reachTime).judgePermission [p]
      | none => s
    else s)

/-! ### The office clock (R197) -/

/-- The clock one minute on; the clock-not-set mark stays (R197). -/
def Stamp.tick (c : Stamp) : Stamp :=
  if c.minute + 1 < Config.minutesPerDay then { c with minute := c.minute + 1 }
  else { c with day := c.day + 1, minute := 0 }

/-- The clock advances 60 s after its last advance or setting, with or without the main supply (R197). Where the time
has passed that moment, it advances once and counts its next 60 s from now: the model's choice (notes/assumptions 4). -/
def execClockAdvance (s : State) : Outcome State Fault Refusal :=
  let s := s.reachTime (s.clockSince + Config.minuteTicks)
  .next { s with clock := s.clock.tick, clockSince := s.now }

/-! ### The supplies and starts (R89, R179, R195, R196, R199) -/

/-- The link rate the straps give (R179). -/
def linkRateOf (x : Straps) : LinkRate :=
  match x.link1, x.link2 with
  | false, false => .b9600
  | true, false => .b19200
  | false, true => .b38400
  | true, true => .b57600

/-- The printer-line rate the strap gives (R89). -/
def lineRateOf (x : Straps) : LineRate := if x.printer then .b38400 else .b19200

/-- The main supply is applied: the straps are read, and a start begins by the standby monitor mark (R196, R199). -/
def execPowerOn (x : Straps) (s : State) : Outcome State Fault Refusal :=
  .next
    (if s.power = .off then
      { s with linkRate := linkRateOf x, lineRate := lineRateOf x }.beginStart s.standby .power
    else s)

/-- The main supply fails: what the retention store does not keep is lost, and a start in course leaves the kept state
as it stood before it began (R195, R199). -/
def execMainSupplyLoss (s : State) : Outcome State Fault Refusal :=
  .next (if s.power = .off then s else { s.clearVolatile with power := .off })

/-- The retention supply falls below its hold level: the standby monitor mark is cleared, and nothing else changes
(R196). -/
def execRetentionSupplyLow (s : State) : Outcome State Fault Refusal := .next { s with standby := false }

/-- A start completes (R199). -/
def execStartComplete (s : State) : Outcome State Fault Refusal :=
  .next
    (match s.power with
    | .starting i => s.completeStart i
    | .off | .running => s)

/-! ### Timed events that are due -/

/-- Whether the stage timer of a printer has run out (R109). -/
def State.stageDue (s : State) (p : Printer) : Bool := (s.printer p).timer.any (·.limit ≤ s.now)

/-- Whether the staged job of a printer may have its permission now that its pacing wait is over (R77, R78). -/
def State.pacingDue (s : State) (p : Printer) : Bool :=
  ((s.printer p).staged.bind s.findJob).any fun j => j.state = .staged && s.permitted p j

/-- One tick of the part's 10 ms timer with nothing due. -/
def State.tick (s : State) : State := { s with now := s.now + 1 }

/-- The timed event that is due, if any: the clock, the completion of a start, a stage limit, a pacing wait
(notes/assumptions 3). -/
def State.dueEvent (s : State) : Option Instr :=
  if s.clockSince + Config.minuteTicks ≤ s.now then some .clockAdvance
  else match s.power with
    | .off => none
    | .starting i => if i.since + Config.startTicks ≤ s.now then some .startComplete else none
    | .running =>
      match allPrinters.find? s.stageDue with
      | some p => some (.stageExpiry p)
      | none => (allPrinters.find? s.pacingDue).map .pacingWaitExpiry

end Sys2Proof.Machine
end

