-- ==== Sys2Proof/Machine/Dispatch.lean ====
section
/-! DEFINITION. The meaning of every command. -/

namespace Sys2Proof.Machine

def exec (i : Instr) (s : State) : Host.Outcome State Fault Refusal :=
  match i with
  | .issue w r => Sys2Proof.Machine.execIssue w r s
  | .cancel w job => Sys2Proof.Machine.execCancel w job s
  | .queryJob w job => Sys2Proof.Machine.execQueryJob w job s
  | .void w job => Sys2Proof.Machine.execVoid w job s
  | .clearPrinter w printer => Sys2Proof.Machine.execClearPrinter w printer s
  | .openShift w clerk float => Sys2Proof.Machine.execOpenShift w clerk float s
  | .closeShift w => Sys2Proof.Machine.execCloseShift w s
  | .declare w tender amount => Sys2Proof.Machine.execDeclare w tender amount s
  | .declareEnd w => Sys2Proof.Machine.execDeclareEnd w s
  | .windowStatus w => Sys2Proof.Machine.execWindowStatus w s
  | .officeStatus sect index => Sys2Proof.Machine.execOfficeStatus sect index s
  | .setClock day minute => Sys2Proof.Machine.execSetClock day minute s
  | .restart => Sys2Proof.Machine.execRestart s
  | .coldStart => Sys2Proof.Machine.execColdStart s
  | .select list param index mode => Sys2Proof.Machine.execSelect list param index mode s
  | .read => Sys2Proof.Machine.execRead s
  | .writeDiscount page entry rate mode minimum restricted => Sys2Proof.Machine.execWriteDiscount page entry rate mode minimum restricted s
  | .switchPage => Sys2Proof.Machine.execSwitchPage s
  | .flushWindow window => Sys2Proof.Machine.execFlushWindow window s
  | .resolve window job resolution => Sys2Proof.Machine.execResolve window job resolution s
  | .resolveWindow window => Sys2Proof.Machine.execResolveWindow window s
  | .setVoidPeriod minutes => Sys2Proof.Machine.execSetVoidPeriod minutes s
  | .loadPack mag first count => Sys2Proof.Machine.execLoadPack mag first count s
  | .unload mag => Sys2Proof.Machine.execUnload mag s
  | .hold mag => Sys2Proof.Machine.execHold mag s
  | .reinstate mag => Sys2Proof.Machine.execReinstate mag s
  | .setStock stock reload threshold => Sys2Proof.Machine.execSetStock stock reload threshold s
  | .setPrinter printer base multiplier changeover => Sys2Proof.Machine.execSetPrinter printer base multiplier changeover s
  | .setRoute window home alternate => Sys2Proof.Machine.execSetRoute window home alternate s
  | .withdraw printer => Sys2Proof.Machine.execWithdraw printer s
  | .returnPrinter printer => Sys2Proof.Machine.execReturnPrinter printer s
  | .flushPrinter printer => Sys2Proof.Machine.execFlushPrinter printer s
  | .setLead lead => Sys2Proof.Machine.execSetLead lead s
  | .acknowledge mode number => Sys2Proof.Machine.execAcknowledge mode number s
  | .clearFlags window flags => Sys2Proof.Machine.execClearFlags window flags s
  | .setFlags window flags => Sys2Proof.Machine.execSetFlags window flags s
  | .toggleFlags window flags => Sys2Proof.Machine.execToggleFlags window flags s
  | .testFlags window flags => Sys2Proof.Machine.execTestFlags window flags s
  | .setLimit window limit => Sys2Proof.Machine.execSetLimit window limit s
  | .forceClose window => Sys2Proof.Machine.execForceClose window s
  | .latch windows part => Sys2Proof.Machine.execLatch windows part s
  | .readLatched window => Sys2Proof.Machine.execReadLatched window s
  | .setTolerance tender low high required => Sys2Proof.Machine.execSetTolerance tender low high required s
  | .collect mode key => Sys2Proof.Machine.execCollect mode key s
  | .release window shift => Sys2Proof.Machine.execRelease window shift s
  | .unknownKind l kind => Sys2Proof.Machine.execUnknownKind l kind s
  | .line l cause => Sys2Proof.Machine.execLine l cause s
  | .overrun l => Sys2Proof.Machine.execOverrun l s
  | .gapDiscard l => Sys2Proof.Machine.execGapDiscard l s
  | .requestDuringStart l kind => Sys2Proof.Machine.execRequestDuringStart l kind s
  | .transmitComplete l => Sys2Proof.Machine.execTransmitComplete l s
  | .linkReadyAsserted l => Sys2Proof.Machine.execLinkReadyAsserted l s
  | .poll => Sys2Proof.Machine.execPoll s
  | .print => Sys2Proof.Machine.execPrint s
  | .clear => Sys2Proof.Machine.execClear s
  | .goodReply r => Sys2Proof.Machine.execGoodReply r s
  | .miss cause => Sys2Proof.Machine.execMiss cause s
  | .auditCounterZero m => Sys2Proof.Machine.execAuditCounterZero m s
  | .stageExpiry p => Sys2Proof.Machine.execStageExpiry p s
  | .pacingWaitExpiry p => Sys2Proof.Machine.execPacingWaitExpiry p s
  | .clockAdvance => Sys2Proof.Machine.execClockAdvance s
  | .powerOn straps => Sys2Proof.Machine.execPowerOn straps s
  | .mainSupplyLoss => Sys2Proof.Machine.execMainSupplyLoss s
  | .retentionSupplyLow => Sys2Proof.Machine.execRetentionSupplyLow s
  | .startComplete => Sys2Proof.Machine.execStartComplete s
  | .readyInputFalls l => Sys2Proof.Machine.execReadyInputFalls l s

end Sys2Proof.Machine
end

