-- ==== Sys2Proof/Machine/LineFrames.lean ====
section
/-! DEFINITION. The messages of the printer line (R90, R95 to R97): the bytes of a command, and the judgement of the bytes
that arrive in a reply window, one by one. -/

namespace Sys2Proof.Machine

/-! ### Commands (R90, R95) -/

/-- A printer-line message: address, kind, length, body, check (R90). -/
def lineFrame (p : Printer) (kind : Byte) (body : List Byte) : List Byte :=
  let bs := printerCode p :: kind :: BitVec.ofNat 8 body.length :: body
  bs ++ [checkByte bs]

/-- The acknowledgement byte: the last-taken number in bits 0 to 3, the resync mark in bit 4 (R95). -/
def Ack.byte (a : Ack) : Byte := (if a.resync then 16 else 0) + a.number.setWidth 8

/-- A stock type code (R191). -/
def stockCode : Stock → Byte
  | .ticket => 1 | .coupon => 2

/-- A fare class code (R191). -/
def fareClassCode : FareClass → Byte
  | .first => 1 | .standard => 2

/-- A mark carried on its own (R194). -/
def markCode (b : Bool) : Byte := if b then 1 else 0

/-- The bytes of one passenger line of a PRINT (R95). -/
def printLine (l : PricedLine) : List Byte :=
  [fareClassCode l.fareClass, BitVec.ofNat 8 l.quantity] ++ bytes3 (BitVec.ofNat 24 l.charge) ++
    bytes3 (BitVec.ofNat 24 l.amount)

/-- The seat reference of a PRINT; the coach letter is 0 for absent (R95). -/
def printSeat : Option Seat → List Byte
  | some q => [q.coach, q.seat]
  | none => [0, 0]

/-- The body of a PRINT (R95). -/
def printBody (a : Ack) (c : PrintCmd) : List Byte :=
  [a.byte, windowCode c.tag.window, c.tag.job, stockCode c.stock, markCode c.sight] ++
    bytes3 (BitVec.ofNat 24 c.expected) ++ bytes3 (BitVec.ofNat 24 c.total) ++ [BitVec.ofNat 8 c.lines.length] ++
    c.lines.flatMap printLine ++ [BitVec.ofNat 8 c.route.length] ++ c.route ++ bytes2 c.validity ++ printSeat c.seat

/-- The bytes the part sends in a turn (R90, R95). -/
def Turn.bytes (u : Turn) : List Byte :=
  match u.cmd with
  | .poll => lineFrame u.printer 17 [u.ack.byte]
  | .print c => lineFrame u.printer 18 (printBody u.ack c)
  | .clear => lineFrame u.printer 19 [u.ack.byte]

/-! ### Replies (R96, R97) -/

/-- The events of a STATUS body: groups of eight bytes and nothing after them (R97). -/
def decodeEvents : Nat → List Byte → Option (List RawEvent)
  | 0, [] => some []
  | k + 1, n :: e :: q :: w :: j :: s2 :: s1 :: s0 :: rest =>
    (decodeEvents k rest).map fun es => ⟨n, e, q, w, j, three s2 s1 s0⟩ :: es
  | _, _ => none

/-- A STATUS body; `none` when its length is not that of its number of events (R97). -/
def decodeStatus : List Byte → Option StatusReply
  | m :: l :: n :: k :: rest => (decodeEvents k.toNat rest).map fun es => ⟨m, l, n, es⟩
  | _ => none

/-- The bytes of a STATUS body (R97). -/
def encodeStatus (r : StatusReply) : List Byte :=
  [r.marks, r.latched, r.newest, BitVec.ofNat 8 r.events.length] ++
    r.events.flatMap fun e => [e.num, e.kind, e.qual, e.tagWindow, e.tagJob] ++ bytes3 e.serial

/-- The event of the part that a whole message gives, by the checks of R96 that follow its completeness: the byte sum, the
address, the kind and the form. -/
def judgeMessage (p : Printer) (bs : List Byte) : Instr :=
  if byteSum bs ≠ 0 then .miss .check
  else match bs with
    | a :: k :: _ :: rest =>
      if a ≠ printerCode p then .miss .address
      else if k ≠ 33 then .miss .form
      else match decodeStatus rest.dropLast with
        | some r => .goodReply r
        | none => .miss .form
    | _ => .miss .form

/-- Whether the bytes heard are as many as the reply's length byte calls for: 3 + n + 1 in all (R91). -/
def replyWhole (bs : List RxByte) : Bool :=
  match bs with
  | _ :: _ :: n :: rest => rest.length = n.byte.toNat + 1
  | _ => false

/-- The fault found in a reply as its newest byte is read, if there is one: a stop bit that is not valid, a length byte above
100, a byte after the last (R96). -/
def replyFault (before : List RxByte) (b : RxByte) : Option MissCause :=
  if b.stop = false then some .framing
  else if before.length = 2 ∧ Config.maxLineBody < b.byte.toNat then some .form
  else if replyWhole before then some .framing
  else none

end Sys2Proof.Machine
end

