-- ==== Sys2Proof/Machine/Receiver.lean ====
section
/-! DEFINITION. The receivers (R91, R93, R96, R180): what a byte, a gap, an idle or the close of a reply window does to the
bytes held, and the command of the opcode table that it completes, if any. -/

namespace Sys2Proof.Machine

/-! ### The seven links (R180) -/

/-- The command that the bytes of one link message make, once they end it: a length byte above 120 ends it at once; else it
ends with its last byte, and a stop bit that was not valid is judged before the byte sum (R180; notes/assumptions 5). -/
def messageEvent (l : Link) (bs : List RxByte) : Option Instr :=
  match bs with
  | _ :: n :: rest =>
    if Config.maxLinkBody < n.byte.toNat then some (.line l .tooLong)
    else if rest.length < n.byte.toNat + 1 then none
    else if bs.any (!·.stop) then some (.line l .badStopBit)
    else decodeMessage l (bs.map (·.byte))
  | _ => none

/-- A receiver takes a byte: the bytes it then holds, and the command of the message the byte ended (R180). -/
def LinkRec.hear (r : LinkRec) (l : Link) (b : RxByte) : List RxByte × Option Instr :=
  if r.discarding then (r.arriving, none)
  else match messageEvent l (r.arriving ++ [b]) with
    | some c => ([], some c)
    | none => (r.arriving ++ [b], none)

/-- A byte comes in on a link; without main supply nothing is received (R180, R195). -/
def State.hearLink (s : State) (l : Link) (b : RxByte) : State × Option Instr :=
  if s.power = .off then (s, none)
  else
    let (bs, c) := (s.link l).hear l b
    (s.modLink l fun r => { r with arriving := bs }, c)

/-! ### The printer line (R91, R93, R96) -/

/-- A byte comes in on the printer line. Outside a reply window it is discarded; a fault found in the reply ends the turn
(R91, R96). -/
def State.hearLine (s : State) (b : RxByte) : State × Option Instr :=
  match s.turn with
  | none => (s, none)
  | some _ =>
    match replyFault s.heard b with
    | some c => ({ s with heard := [] }, some (.miss c))
    | none => ({ s with heard := s.heard ++ [b] }, none)

/-- The printer line has been idle for 12 bit times, which ends a message that has begun (R91): a reply that is whole is
judged, and one that is not cannot become complete, so that the turn is a miss at once (R93, R96; notes/assumptions 5). -/
def State.hearIdle (s : State) : State × Option Instr :=
  match s.turn with
  | none => (s, none)
  | some u =>
    if s.heard = [] then (s, none)
    else
      let c : Instr := if replyWhole s.heard then judgeMessage u.printer (s.heard.map (·.byte)) else .miss .timeout
      ({ s with heard := [] }, some c)

/-- The reply window closes on a turn without a complete reply: a miss (R93, R96). -/
def State.closeWindow (s : State) : State × Option Instr :=
  match s.turn with
  | none => (s, none)
  | some _ => ({ s with heard := [] }, some (.miss .timeout))

/-- What comes in on the wires next: the state with the bytes the receivers then hold, and the command that it brings
about, if any. -/
def State.arrive (s : State) : Arrival → State × Option Instr
  | .byte l b => s.hearLink l b
  | .gap l => (s, some (.gapDiscard l))
  | .lineByte b => s.hearLine b
  | .lineIdle => s.hearIdle
  | .windowCloses => s.closeWindow

end Sys2Proof.Machine
end

