-- ==== Sys2Proof/Machine/Step.lean ====
section
/-! DEFINITION. The step: the command at the front of the queue; with no command waiting, what comes in on the wires next;
with nothing waiting, a timed event that is due, or one tick of the part's 10 ms timer (notes/assumptions 3 and 5). -/

namespace Sys2Proof.Machine

/-- A receiver's answer: the command it brings about is run at once. -/
def runReceived (x : State × Option Instr) : Host.Outcome State Fault Refusal :=
  match x.2 with
  | some c => exec c x.1
  | none => .next x.1

/-- One step of the machine. -/
def step (s : State) : Host.Outcome State Fault Refusal :=
  match s.pending, s.arrivals with
  | c :: rest, _ => exec c { s with pending := rest }
  | [], a :: rest => runReceived ({ s with arrivals := rest }.arrive a)
  | [], [] =>
    match s.dueEvent with
    | some c => exec c s
    | none => .next s.tick

/-- The state with the command a table word spells put at the front of its queue. The table gives its rows no bits, so no
word spells a command. -/
def State.withFetchWord (s : State) (nbits w : Nat) : State :=
  match decodeTableWord nbits w with
  | some c => { s with pending := c :: s.pending }
  | none => s

end Sys2Proof.Machine
end

