-- ==== Sys2Proof/Safety.lean ====
section
/-! DEFINITION. What a lawful state is: the laws the manual states of the whole part, as predicates on `State`, each with
its rules; the statements say that every step keeps it and that reset has it. Then the vocabulary the statements share:
the parts of the state, two states that agree outside some parts, a link that takes a request, a reply that has joined a
reply order, a command refused, a notice due or on its way. -/

namespace Sys2Proof.Machine

/-! ### Ranges of the settings (R61, R62, R71, R124, R137, R146, R169, R197) -/

/-- A printer's pacing settings are in range (R71). -/
def PrinterRec.inRange (r : PrinterRec) : Prop :=
  r.base ≤ 7 ∧ 1 ≤ r.multiplier ∧ r.multiplier ≤ 2 ∧ r.changeover ≤ 15

/-- A stock type's settings and counts are in range (R61, R62, R65). -/
def StockSettings.inRange (k : StockSettings) : Prop :=
  k.reload ≤ 2047 ∧ (∀ v ∈ k.pendingReload, v ≤ 2047) ∧ k.threshold ≤ 500 ∧ k.spoiled ≤ 999999 ∧ k.voided ≤ 999999

/-- A tolerance row is in range (R169). -/
def Tolerance.inRange (t : Tolerance) : Prop := -99999 ≤ t.low ∧ t.low ≤ 0 ∧ 0 ≤ t.high ∧ t.high ≤ 99999

/-- Every setting of the part is in its range, and the office clock shows a minute of the day (R61, R62, R65, R71, R124,
R137, R146, R169, R197). -/
def State.SettingsLawful (s : State) : Prop :=
  (∀ p, (s.printer p).inRange) ∧ (∀ k, (s.stock.get k).inRange) ∧ (∀ t, (s.tolerance.get t).inRange) ∧
    (∀ w, (s.window w).profile.limit ≤ 9999999) ∧ s.voidPeriod ≤ 60 ∧ s.faults.lead ≤ 7 ∧ s.clock.minute < 1440

/-! ### Entry 0 of the discount pages (R2) -/

/-- Entry 0 of both pages has its fixed content (R2). -/
def State.PagesLawful (s : State) : Prop := ∀ g, s.fare.entry g 0 = .plain

/-! ### Bounded collections (R27, R36, R92, R106, R132, R174, R175, R182) -/

/-- The trace rings and miss counts of the printer line are bounded (R92, R106). -/
def State.LinesLawful (s : State) : Prop := ∀ p, (s.lineRec p).ring.length ≤ 16 ∧ (s.lineRec p).misses ≤ 3

/-- The fault log holds at most 24 records (R132). -/
def State.LogLawful (s : State) : Prop := s.faults.records.length ≤ 24

/-- The cash-up list holds at most 12 records and at most one per window and shift number (R175). -/
def State.ListLawful (s : State) : Prop :=
  s.cashUps.length ≤ 12 ∧ s.cashUps.Pairwise fun a b => ¬(a.window = b.window ∧ a.shift = b.shift)

/-- A reply order holds at most two held requests and four owed refusals, and at most `n` replies to a start (R182). -/
def LinkRec.bounded (r : LinkRec) (n : Nat) : Prop :=
  r.countKind .held ≤ 2 ∧ r.countKind .owed ≤ 4 ∧ r.countKind .start ≤ n

/-- Every reply order is within its limits: a window link never holds the reply to a start, and the office link holds none
while a start is in course (R182, R190, R198). -/
def State.OrdersLawful (s : State) : Prop :=
  (∀ w, (s.link (.window w)).bounded 0) ∧ (s.link .office).bounded (if s.power = .running then 1 else 0)

/-! ### Printers (R69) -/

/-- The staged slot holds a job only while the printer is READY, and the return mark stands in FAULTED and WITHDRAWN
only (R69). -/
def PrinterRec.lawful (r : PrinterRec) : Prop :=
  (r.staged ≠ none → r.state = .ready) ∧
    (r.returnMark = true → r.state = .withdrawn ∨ ∃ k, r.state = .faulted k)

/-- Every printer record is lawful (R69). -/
def State.PrintersLawful (s : State) : Prop := ∀ p, (s.printer p).lawful

/-! ### Packs (R45, R47, R48) -/

/-- A pack holds 1 to 500 serials, none above 999,999, and its next serial is one of them or the one after the last (R45). -/
def Pack.lawful (k : Pack) : Prop :=
  k.first ≤ k.last ∧ k.last ≤ k.first + 499 ∧ k.last ≤ 999999 ∧ k.first ≤ k.next ∧ k.next ≤ k.last + 1

/-- A magazine has pack fields when it is not EMPTY, and only then, and those it has are lawful (R45). -/
def Magazine.lawful (m : Magazine) : Prop := (m.state = .empty ↔ m.pack = none) ∧ ∀ k ∈ m.pack, k.lawful

/-- Every magazine is lawful, and no two of one stock type hold a serial in common (R45, R47). -/
def State.PacksLawful (s : State) : Prop :=
  (∀ m, (s.mag m).lawful) ∧
    ∀ m n, m ≠ n → m.stock = n.stock → ∀ k ∈ (s.mag m).pack, ∀ q ∈ (s.mag n).pack, k.overlaps q = false

/-! ### Fares (R21) -/

/-- Every job's charges and total are within the bounds of R21. -/
def State.FaresLawful (s : State) : Prop :=
  ∀ j ∈ s.jobs, j.total ≤ 9999999 ∧ ∀ l ∈ j.lines, l.charge ≤ l.fare

/-! ### The job table (R25, R27, R28, R36, R38, R63, R64) -/

/-- The references of a notice list that name a record, without the carried notices. -/
def WindowRec.refs (r : WindowRec) : List RefTarget := (r.notices.map (·.target)).filter (· ≠ .carried)

/-- A window's lists: at most four recent issues, all of the window, with numbers of their own; at most one reference per
record, each naming a record that stands (R36, R38). -/
def State.WindowListsLawful (s : State) (w : Window) : Prop :=
  let r := s.window w
  r.recent.length ≤ 4 ∧ (r.recent.map (·.tag)).Nodup ∧ (∀ e ∈ r.recent, e.tag.window = w) ∧ r.refs.Nodup ∧
    (∀ n, .recent n ∈ r.refs → ∃ e ∈ r.recent, e.tag.job = n) ∧ (∀ n, .job n ∈ r.refs → ∃ j ∈ s.jobs, j.tag = ⟨w, n⟩)

/-- The law of the job table: at most 32 active jobs, no two of one tag, none with the tag of a recent issue; every
window's load at most 8; the exception list's entries and reservations at most 64 (R25, R27, R36, R38, R64). -/
def State.TableLawful (s : State) : Prop :=
  s.jobs.length ≤ 32 ∧ (s.jobs.map (·.tag)).Nodup ∧ (∀ j ∈ s.jobs, ∀ e ∈ (s.window j.tag.window).recent, e.tag ≠ j.tag) ∧
    (∀ w, s.load w ≤ 8) ∧ (∀ w, s.WindowListsLawful w) ∧ s.exceptions.length + s.reservations ≤ 64

/-! ### Slots, timers, commitments and reservations (R46, R47, R64, R75, R79, R94, R109) -/

/-- Whether a job is STAGED or FEEDING against a magazine. -/
def Job.commitsTo (j : Job) (m : MagId) : Bool :=
  j.printer = some m.printer && j.stock = m.stock && (j.state = .staged || j.state = .feeding)

/-- Whether a job is FEEDING from a magazine. -/
def Job.feedsFrom (j : Job) (m : MagId) : Bool := j.printer = some m.printer && j.stock = m.stock && j.state = .feeding

/-- The staged slots hold the STAGED jobs, each on its own printer against an ACTIVE magazine (R46, R75). -/
def State.StagedLawful (s : State) : Prop :=
  (∀ p, ∀ t ∈ (s.printer p).staged, ∃ j ∈ s.jobs, j.tag = t ∧ j.state = .staged ∧ j.printer = some p) ∧
    ∀ j ∈ s.jobs, j.state = .staged →
      ∃ p, j.printer = some p ∧ (s.printer p).staged = some j.tag ∧ (s.mag ⟨p, j.stock⟩).state = .active

/-- The current slots hold the jobs in FEEDING, PRINTING and DELIVERING, each on its own printer (R64, R79). -/
def State.CurrentLawful (s : State) : Prop :=
  (∀ p, ∀ c ∈ (s.printer p).current, ∃ j ∈ s.jobs, j.tag = c.tag ∧ j.state.reserved = true ∧ j.printer = some p) ∧
    ∀ j ∈ s.jobs, j.state.reserved = true →
      ∃ p, j.printer = some p ∧ (s.printer p).current.map (·.tag) = some j.tag

/-- The stage timer of a printer runs only while its current slot holds a job, and a pending PRINT is that of the job in the
slot (R79, R80, R94, R109), with the expected serial and the sight request the slot keeps (notes/assumptions 10). -/
def State.TimersLawful (s : State) : Prop :=
  ∀ p, ((s.printer p).current = none → (s.printer p).timer = none) ∧
    ∀ c, (s.lineRec p).pendingCmd = some (.print c) → (s.printer p).current = some ⟨c.tag, c.expected, c.sight⟩

/-- The law of the slots. No timer runs and no PRINT is pending for an empty current slot. While the part runs, the slots hold just the jobs of their states, the committed count of a
magazine is the number of jobs STAGED or FEEDING against it, and it never exceeds the remaining blanks (R47). Otherwise
no turn is in progress and the slots are empty, a job retained from FEEDING has its printer, and no magazine has more of
them than remaining blanks (R44, R47, R88, R108). -/
def State.SlotsLawful (s : State) : Prop :=
  s.TimersLawful ∧ match s.power with
  | .running =>
    s.StagedLawful ∧ s.CurrentLawful ∧
      ∀ m, (s.mag m).committed = s.jobs.countP (·.commitsTo m) ∧ (s.mag m).committed ≤ (s.mag m).remaining ∧
        ((s.mag m).state = .empty → (s.mag m).committed = 0)
  | .off | .starting _ =>
    s.turn = none ∧ (∀ p, (s.printer p).staged = none ∧ (s.printer p).current = none) ∧
      (∀ j ∈ s.jobs, j.state = .feeding → j.printer.isSome) ∧
      ∀ m, s.jobs.countP (·.feedsFrom m) ≤ (s.mag m).remaining

/-! ### Blanks in the exception list (R63) -/

/-- A serial of a stock type is drawn from a loaded pack: inside the pack and below its next serial (R63, R66). -/
def State.Drawn (s : State) (k : Stock) (x : Nat) : Prop :=
  ∃ m, m.stock = k ∧ ∃ q ∈ (s.mag m).pack, q.first ≤ x ∧ x < q.next

/-- Every exception entry names a drawn serial of a loaded pack of its type, and no serial has two entries (R63). -/
def State.EntriesLawful (s : State) : Prop :=
  (∀ e ∈ s.exceptions, s.Drawn e.stock e.serial) ∧
    s.exceptions.Pairwise fun a b => ¬(a.stock = b.stock ∧ a.serial = b.serial)

/-- The blanks of the jobs in print. The blank of a job in PRINTING or DELIVERING is drawn, is no other job's, and has no
entry yet; a FEEDING job's expected serial is its magazine's next one; a job IN_DOUBT has its entry, and no two such jobs
share a blank (R57, R63, R116, R117). -/
def State.JobBlanksLawful (s : State) : Prop :=
  (∀ j ∈ s.jobs, j.state = .printing ∨ j.state = .delivering →
    ∃ x, j.serial = some x ∧ s.Drawn j.stock x ∧ (∀ e ∈ s.exceptions, ¬(e.stock = j.stock ∧ e.serial = x)) ∧
      ∀ j' ∈ s.jobs, j'.state = .printing ∨ j'.state = .delivering → j'.stock = j.stock → j'.serial = some x → j' = j) ∧
    (∀ p, ∀ c ∈ (s.printer p).current, ∀ j ∈ s.jobs, j.tag = c.tag → j.state = .feeding →
      c.expected = (s.mag ⟨p, j.stock⟩).next) ∧
    ∀ j ∈ s.jobs, j.state = .inDoubt → (∃ e ∈ s.exceptions, e.doubtOf j = true) ∧
      ∀ j' ∈ s.jobs, j'.state = .inDoubt → j'.stock = j.stock → j'.serial = j.serial → j' = j

/-- The blank of a recent issue is neither still to be drawn from a loaded pack nor that of a job in print. -/
def State.RecentBlanksLawful (s : State) : Prop :=
  ∀ w, ∀ e ∈ (s.window w).recent,
    (∀ m, m.stock = e.stock → ∀ q ∈ (s.mag m).pack, ¬(q.next ≤ e.serial ∧ e.serial ≤ q.last)) ∧
      ∀ j ∈ s.jobs, j.state = .printing ∨ j.state = .delivering → ¬(j.stock = e.stock ∧ j.serial = some e.serial)

/-- The law of the blanks (R63), with what keeps it of the jobs in print and of the recent issues. -/
def State.BlanksLawful (s : State) : Prop := s.EntriesLawful ∧ s.JobBlanksLawful ∧ s.RecentBlanksLawful

/-- Every pack that is loaded between two states holds no serial of a recent issue: a serial is printed on one blank. -/
def State.LoadsFresh (s t : State) : Prop :=
  ∀ m, (s.mag m).pack = none → ∀ q ∈ (t.mag m).pack, ∀ w, ∀ e ∈ (s.window w).recent, e.stock = m.stock →
    ¬(q.first ≤ e.serial ∧ e.serial ≤ q.last)

/-! ### Shifts and the wait order (R27, R150, R153, R156) -/

/-- The law of the shifts: a shift's active count is the number of its jobs, which carry its number and stand only in OPEN
and CLOSING; a CLOSING shift has an active job; the wait order holds just the windows in LIST_WAIT, which hold their
records (R27, R150, R153, R155, R156, R174). -/
def State.ShiftsLawful (s : State) : Prop :=
  (∀ w, (s.shift w).active = s.activeJobs w) ∧
    (∀ j ∈ s.jobs, j.shift = (s.shift j.tag.window).number ∧
      ((s.shift j.tag.window).state = .opened ∨ (s.shift j.tag.window).state = .closing)) ∧
    (∀ w, (s.shift w).state = .closing → s.power = .running → 0 < (s.shift w).active) ∧
    s.waitOrder.Nodup ∧
    ∀ w, (w ∈ s.waitOrder ↔ (s.shift w).state = .listWait) ∧
      ((s.shift w).heldRecord.isSome = true ↔ (s.shift w).state = .listWait)

/-! ### Trace rings and the fault log, record by record -/

/-- A trace ring with one entry more: the oldest of 16 goes (R106). -/
def ringWith (ring : List TraceEntry) (e : TraceEntry) : List TraceEntry :=
  (if ring.length < 16 then ring else ring.tail) ++ [e]

/-- A record whose capture, if it has one, ends: ACKNOWLEDGED if it carried the acknowledge-pending mark, else OPEN (R133,
R139). -/
def FaultRecord.closed (r : FaultRecord) : FaultRecord :=
  if r.state = .capturing then { r with state := if r.ackPending then .acknowledged else .opened, ackPending := false }
  else r

/-- A record whose capture on a printer ends (R139). -/
def FaultRecord.closedOn (p : Printer) (r : FaultRecord) : FaultRecord := if r.printer = some p then r.closed else r

/-- A record to which a trace entry of a printer is handed: one CAPTURING on that printer takes it, and its capture ends at
its target (R138). -/
def FaultRecord.handed (p : Printer) (e : TraceEntry) (r : FaultRecord) : FaultRecord :=
  if r.state = .capturing ∧ r.printer = some p then
    let longer : FaultRecord := { r with snapshot := r.snapshot ++ [e] }
    if r.snapshot.length + 1 < r.target then longer else longer.closedOn p
  else r

/-- The log to which a trace entry of a printer is handed (R107, R138). -/
def FaultLog.handed (l : FaultLog) (p : Printer) (e : TraceEntry) : FaultLog :=
  { l with records := l.records.map (·.handed p e) }

/-- The records of a log that stay when it makes room for one more, and the overrun mark it then has: of 24 records the
oldest ACKNOWLEDGED one goes, or else the oldest, with the mark (R135). -/
def FaultLog.Keeps (l : FaultLog) (records kept : List FaultRecord) (lost : Bool) : Prop :=
  (records.length < 24 → kept = records ∧ lost = l.overrun) ∧
    (24 ≤ records.length → ∀ a x b, records = a ++ x :: b → x.state = .acknowledged →
      (∀ y ∈ a, y.state ≠ .acknowledged) → kept = a ++ b ∧ lost = l.overrun) ∧
    (24 ≤ records.length → (∀ x ∈ records, x.state ≠ .acknowledged) → kept = records.tail ∧ lost = true)

/-- A printer fault has made its record in a log: the printer's capture closes short, room is made, and the record joins the
end with the next record number, its fields, and the newest entries of the ring as its snapshot (R131, R132, R134, R135,
R137). -/
def FaultLog.Gains (l l' : FaultLog) (p : Printer) (k : RecordKind) (f : FaultFields) (ring : List TraceEntry)
    (c : Stamp) : Prop :=
  ∃ kept lost older snap,
    l.Keeps (l.records.map (·.closedOn p)) kept lost ∧ ring = older ++ snap ∧ snap.length = min (l.lead + 1) ring.length ∧
    l' = ⟨kept ++ [⟨l.nextNumber, k, some p, f.stage, f.tag, f.serial, f.sighted, f.mag, none, c,
      if l.lead < 7 then .capturing else .opened, false, snap.length + (7 - l.lead), snap⟩], l.lead, lost,
      l.nextNumber + 1⟩

/-- What a record says of the printer's current job: its stage, tag and serial, and its magazine (R131). -/
def State.CurrentIs (s : State) (p : Printer) (f : FaultFields) : Prop :=
  match (s.printer p).current with
  | none => f = ⟨none, none, none, none, none⟩
  | some c => ∃ j ∈ s.jobs, j.tag = c.tag ∧ f = ⟨j.state.stage, some j.tag, j.serial, none, some ⟨p, j.stock⟩⟩

/-! ### The parts of the state, for frames -/

/-- A part of the state: what a frame can leave open. -/
inductive Part where
  | arrivals | time | power | standby | rates | clock | fare | jobs | exceptions
  | mag (m : MagId)
  | stock (k : Stock)
  | printer (p : Printer)
  | routes
  | line (p : Printer)
  | turn | faults
  | shift (w : Window)
  | profile (w : Window)
  | recent (w : Window)
  | notices (w : Window)
  | snapshot (w : Window)
  | waitOrder | tolerance | cashUps | voidPeriod
  | link (l : Link)
  | cursor
deriving DecidableEq, Repr

/-- Two states agree in a part. -/
def State.SameAt (s t : State) : Part → Prop
  | .arrivals => t.arrivals = s.arrivals
  | .time => t.now = s.now
  | .power => t.power = s.power
  | .standby => t.standby = s.standby
  | .rates => t.linkRate = s.linkRate ∧ t.lineRate = s.lineRate
  | .clock => t.clock = s.clock ∧ t.clockSince = s.clockSince
  | .fare => t.fare = s.fare
  | .jobs => t.jobs = s.jobs
  | .exceptions => t.exceptions = s.exceptions
  | .mag m => t.mag m = s.mag m
  | .stock k => t.stock.get k = s.stock.get k
  | .printer p => t.printer p = s.printer p
  | .routes => t.routes = s.routes
  | .line p => t.lineRec p = s.lineRec p
  | .turn => t.turn = s.turn ∧ t.rotation = s.rotation ∧ t.heard = s.heard
  | .faults => t.faults = s.faults
  | .shift w => (t.window w).shift = (s.window w).shift
  | .profile w => (t.window w).profile = (s.window w).profile
  | .recent w => (t.window w).recent = (s.window w).recent
  | .notices w => (t.window w).notices = (s.window w).notices
  | .snapshot w => (t.window w).snapshot = (s.window w).snapshot
  | .waitOrder => t.waitOrder = s.waitOrder
  | .tolerance => t.tolerance = s.tolerance
  | .cashUps => t.cashUps = s.cashUps
  | .voidPeriod => t.voidPeriod = s.voidPeriod
  | .link l => t.link l = s.link l
  | .cursor => t.cursor = s.cursor

/-- Two states agree in everything but the parts given: the frame of a command. The waiting commands agree too. -/
def State.SameOutside (ps : List Part) (s t : State) : Prop := t.pending = s.pending ∧ ∀ q, q ∉ ps → s.SameAt t q

/-- The parts a dispatch opportunity or a print permission can change: jobs, printers, pending commands, magazines (R74,
R75, R79). -/
def dispatchParts : List Part :=
  .jobs :: allMags.map .mag ++ allPrinters.map .printer ++ allPrinters.map .line

/-- The parts a reply on a link can change: the link, and on a window link the notice list (R42, R185). -/
def replyParts : Link → List Part
  | .window w => [.link (.window w), .notices w]
  | .office => [.link .office]

/-- The parts a shift's compute can change (R155, R156). -/
def shiftParts (w : Window) : List Part := [.shift w, .notices w, .cashUps, .waitOrder]

/-- The parts a job's departure from the table can change (R32). -/
def leaveParts (w : Window) : List Part := .jobs :: .recent w :: shiftParts w

/-- The parts the end of a turn or the failure of a job can change whatever it brings: the dispatcher's, the fault log and the
turn, and the window links, which carry the notices then due (R73, R93, R107, R185). -/
def turnParts : List Part :=
  dispatchParts ++ [.faults, .turn] ++ allWindows.flatMap fun w => replyParts (.window w)

/-- The parts the failure of a job of a window can change (R113 to R117). -/
def failParts (w : Window) : List Part := turnParts ++ shiftParts w ++ [.exceptions, .stock .ticket, .stock .coupon]

/-- The parts a printer-line event can change: those of the outcomes of jobs of any window. -/
def lineParts : List Part := allWindows.flatMap fun w => leaveParts w ++ failParts w

/-- The parts the retention store does not keep, but for the power itself (R195). -/
def volatileParts : List Part :=
  [.turn, .cursor, .link .office] ++ allPrinters.map .printer ++ allPrinters.map .line ++
    allWindows.flatMap fun w => [.notices w, .snapshot w, .link (.window w)]

/-! ### Requests and replies -/

/-- A link takes the next request: the part runs, the receiver takes messages, and fewer than two requests are held
(R182, R183). -/
def State.Listens (s : State) (l : Link) : Prop :=
  s.power = .running ∧ (s.link l).discarding = false ∧ (s.link l).countKind .held < 2

/-- A reply has joined the end of a link's reply order as a held request (R182). -/
def State.Replied (s t : State) (l : Link) (r : Reply) : Prop :=
  (t.link l).order = (s.link l).order ++ [⟨.held, r⟩]

/-- A request is refused on its link with a code: the refusal joins the reply order and nothing else changes (R184). -/
def State.Refuses (s : State) (c : Instr) (l : Link) (kind : Byte) (code : Code) : Prop :=
  ∃ t, exec c s = .next t ∧ s.Replied t l (.refused kind code) ∧ s.SameOutside (replyParts l) t

/-- A notice stands on a window's notice list under a reference, or its link is sending it (R38, R42). -/
def State.NoticeOut (s : State) (w : Window) (x : RefTarget) (n : Notice) : Prop :=
  ⟨x, n⟩ ∈ (s.window w).notices ∨ (s.link (.window w)).sending = some (.notice n)

/-- Whether a notice stays when its window opens a new shift: it is about neither the shift record nor a recent issue (R42,
R152). -/
def NoticeRef.outlivesShift (r : NoticeRef) : Bool :=
  match r.target with
  | .shift | .recent _ => false
  | .job _ | .carried => true

/-- What the transmitter of a link does with a link record and the notice due, by the table of R185: while it is free, its
terminal is ready and the part has main supply, it begins the head of the reply order or the notice; else the record
stands. The flag says that the notice was begun. -/
def arbitration (on : Bool) (r : LinkRec) (due : Option Notice) : LinkRec × Bool :=
  if on = false ∨ r.sending ≠ none ∨ r.ready = false then (r, false)
  else match r.order, due, r.lastSent with
    | [], none, _ => (r, false)
    | e :: _, none, _ | e :: _, some _, .notice => ({ r with sending := some (.reply e.reply), lastSent := .reply }, false)
    | [], some n, _ | _ :: _, some n, .reply => ({ r with sending := some (.notice n), lastSent := .notice }, true)

/-- The record of a link, and a window's notice list, after the transmitter was judged with this record: the notice begun has
left the list; while a start is in course, and on the office link, no notice is due (R42, R185, R199). -/
def State.Arbitrated (s t : State) (l : Link) (r : LinkRec) : Prop :=
  match l with
  | .office => t.link .office = (arbitration (s.power ≠ .off) r none).1
  | .window w =>
    let a := arbitration (s.power ≠ .off) r
      (if s.power = .running then (s.window w).notices.head?.map (s.noticeNow w ·.notice) else none)
    t.link (.window w) = a.1 ∧
      (t.window w).notices = if a.2 then (s.window w).notices.tail else (s.window w).notices

/-! ### Jobs that leave the table, and what it does to their shift -/

/-- The cash-up list has room for a record: fewer than 12, and none of its window and shift number (R174, R177). -/
def roomFor (l : List CashUp) (r : CashUp) : Prop := l.length < 12 ∧ ∀ x ∈ l, ¬(x.window = r.window ∧ x.shift = r.shift)

/-- The shift of a window has been computed on the record `h`: its cash-up is filed and it is CLOSED where the list has room
and no shift waits, else it holds its cash-up in LIST_WAIT at the end of the wait order; the shift notice carries the
result (R156, R157, R174). -/
def State.Computed (s t : State) (w : Window) (h : ShiftRec) : Prop :=
  let r := cashUpOf w h s.tolerance
  let files : Prop := s.waitOrder = [] ∧ roomFor s.cashUps r
  (files → t.shift w = { h with state := .closed, heldRecord := none } ∧ t.cashUps = s.cashUps ++ [r] ∧
    t.waitOrder = s.waitOrder) ∧
  (¬files → t.shift w = { h with state := .listWait, heldRecord := some r } ∧ t.cashUps = s.cashUps ∧
    t.waitOrder = s.waitOrder ++ [w]) ∧
  t.NoticeOut w .shift (.shift ⟨w, h.number, (t.shift w).state, h.active, h.ended, h.forced, some r.overall⟩)

/-- A shift without active jobs has left CLOSING on the record `h`: DECLARING with a notice, or computed when its
declaration has ended (R155). -/
def State.ClosingEnded (s t : State) (w : Window) (h : ShiftRec) : Prop :=
  (h.ended = true → s.Computed t w h) ∧
    (h.ended = false → t.shift w = { h with state := .declaring } ∧ t.cashUps = s.cashUps ∧ t.waitOrder = s.waitOrder ∧
      t.NoticeOut w .shift (.shift ⟨w, h.number, .declaring, h.active, false, h.forced, none⟩))

/-- So many jobs of a window have left the table, its shift record otherwise being `h`: the active count is that much lower,
and a CLOSING shift that the last one left has ended its wait (R32, R155). -/
def State.JobsLeft (s t : State) (w : Window) (h : ShiftRec) (n : Nat) : Prop :=
  let left : ShiftRec := { h with active := h.active - n }
  let ends : Prop := 0 < n ∧ h.state = .closing ∧ left.active = 0
  (ends → s.ClosingEnded t w left) ∧
    (¬ends → t.shift w = left ∧ t.cashUps = s.cashUps ∧ t.waitOrder = s.waitOrder)

/-- A shift record with the tallies of an issued job, each held at its limit, with SAT in the sticky set when one would pass
it (R158, R159). -/
def ShiftRec.issued (h : ShiftRec) (j : Job) : ShiftRec :=
  let y := h.tallies.tender.get j.tender
  { h with
    tallies := h.tallies.issue j.tender j.stock j.total j.referred
    sticky := { h.sticky with
      sat := h.sticky.sat || decide (65535 < y.count + 1) || decide (999999999 < y.net + j.total) ||
        decide (65535 < h.tallies.stock.get j.stock + 1) || (j.referred && decide (65535 < h.tallies.referred + 1)) } }

/-- An entry has joined its window's recent issue list: of four the oldest goes, and its notice reference is dropped unsent
(R36, R42). -/
def State.JoinedRecent (s t : State) (w : Window) (e : RecentEntry) : Prop :=
  let old := (s.window w).recent
  (t.window w).recent = (if old.length < 4 then old else old.tail) ++ [e] ∧
    ∀ o, 4 ≤ old.length → old.head? = some o → ∀ r ∈ (t.window w).notices, r.target ≠ .recent o.tag.job

/-! ### Slots emptied and jobs failed -/

/-- The staged job of a printer has returned, from `s` to `r`: it is QUEUED in its place without a printer, the slot is
empty, the committed count of its magazine is one lower, and nothing else has changed (R29, R75). -/
def State.StagedReturned (s r : State) (p : Printer) (j : Job) : Prop :=
  r.jobs = s.jobs.map (fun x =>
    if x.tag = j.tag then { x with state := .queued, printer := none, serial := none } else x) ∧
    r.printer p = { s.printer p with staged := none } ∧
    r.mag ⟨p, j.stock⟩ = { s.mag ⟨p, j.stock⟩ with committed := (s.mag ⟨p, j.stock⟩).committed - 1 } ∧
    s.SameOutside [.jobs, .printer p, .mag ⟨p, j.stock⟩] r

/-- The job in a printer's current slot has failed, from `s` to `t`, by its stage: FEEDING gives the blank back with the
magazine HELD, PRINTING spoils it and returns the job once, DELIVERING leaves both IN_DOUBT. The slot no longer holds the
job as it was, its timer stands, the time of last outcome is now, and the job's shift loses it if it ends FAILED (R80, R109,
R113, R115 to R117, R155). -/
def State.CurrentFailed (s t : State) (p : Printer) (j : Job) (c : LossCause) : Prop :=
  let m : MagId := ⟨p, j.stock⟩
  let spent (d : Disposition) : ExcEntry := ⟨j.stock, j.serial.getD 0, d, c.entryReason, some j.tag, none, s.clock⟩
  let gone : Prop := ∀ x, (t.printer p).current = some x → x.tag ≠ j.tag
  (t.printer p).timer = none ∧ (t.printer p).lastOutcome = some t.now ∧
  s.JobsLeft t j.tag.window (s.shift j.tag.window) (if j.state = .printing ∧ j.retry ≠ 0 then 1 else 0) ∧
  (j.state = .feeding → t.exceptions = s.exceptions ∧ (t.mag m).pack = (s.mag m).pack ∧
    ((s.mag m).state = .active ∨ (∃ r, (s.mag m).state = .held r) → (t.mag m).state = .held .noProgress) ∧
    ((s.mag m).state = .discrepant → (t.mag m).state = .discrepant) ∧ gone ∧
    ∃ j' ∈ t.jobs, j'.tag = j.tag ∧ j'.retry = j.retry ∧ j'.serial = none ∧ j'.printer ≠ some p) ∧
  (j.state = .printing → t.exceptions = s.exceptions ++ [spent .spoiled] ∧
    (t.stock.get j.stock).spoiled = min ((s.stock.get j.stock).spoiled + 1) 999999 ∧
    (j.retry = 0 → ∃ j' ∈ t.jobs, j'.tag = j.tag ∧ j'.retry = 1 ∧ j'.serial = none ∧
      (j'.state = .queued ∨ j'.state = .staged ∨ j'.state = .feeding)) ∧
    (j.retry ≠ 0 → gone ∧ t.jobs.map (·.tag) = (s.jobs.map (·.tag)).filter (· ≠ j.tag) ∧
      t.NoticeOut j.tag.window .carried (.job ⟨.failed c.reason, j.tag, j.stock, j.total, none⟩))) ∧
  (j.state = .delivering → gone ∧ t.exceptions = s.exceptions ++ [spent .inDoubt] ∧
    { j with state := .inDoubt } ∈ t.jobs ∧
    t.NoticeOut j.tag.window (.job j.tag.job) (.job ⟨.inDoubt, j.tag, j.stock, j.total, j.serial⟩))

/-! ### Said another way than the machine computes it -/

/-- The rounded charge of a mode, said by the quotient "rounded down" of R10 and not by a division. -/
def Rounding.gives (mode : Rounding) (n p : Nat) : Prop :=
  match mode with
  | .nearest => p * 10000 ≤ n + 5000 ∧ n + 5000 < (p + 1) * 10000
  | .down => p * 10000 ≤ n ∧ n < (p + 1) * 10000
  | .up => p * 10000 ≤ n + 9999 ∧ n + 9999 < (p + 1) * 10000
  | .five => ∃ q, p = 5 * q ∧ q * 50000 ≤ n + 25000 ∧ n + 25000 < (q + 1) * 50000

/-- Whether a shift takes declarations: CLOSING or DECLARING with the declaration-ended mark absent (R166, R167). -/
def ShiftRec.takesDeclarations (h : ShiftRec) : Prop :=
  (h.state = .closing ∨ h.state = .declaring) ∧ h.ended = false

/-- What a start leaves of the state the retention store does not keep: no slot, no pending command, no notice, no snapshot,
no reply, the ready inputs as they are (R44, R88, R108, R164, R186, R190, R195). -/
def State.VolatileCleared (s t : State) : Prop :=
  t.turn = none ∧ t.rotation = .p1 ∧ t.heard = [] ∧ t.cursor = ⟨none, 1, .sequential⟩ ∧
    (∀ p, (t.lineRec p) = ⟨none, 0, false, 0, none, []⟩ ∧
      t.printer p = { s.printer p with
        state := if (s.printer p).state = .withdrawn then .withdrawn else .offline
        returnMark := false, staged := none, current := none, lastOutcome := none, timer := none }) ∧
    (∀ w, (t.window w).notices = [] ∧ (t.window w).snapshot = none) ∧
    ∀ l, t.link l = ⟨[], none, .reply, (s.link l).ready, false, []⟩

end Sys2Proof.Machine
end

