-- ==== Sys2Proof/Certificates/Slice0/Obligations.lean ====
section
/-! DEFINITION. The statements for the provers, in the order of OBLIGATIONS.json. A statement about a command says that it
answers a next state, which reply joins which reply order, what the records it reaches then hold, and with `SameOutside`
what it leaves as it was. -/

open Sys2Proof Sys2Proof.Machine

/-! ### The step, the reset and the laws every step keeps -/

/-- The step takes the command at the front of the queue and runs it with the queue's rest. -/
def Obligations.StepRunsFrontCommand : Prop :=
  ∀ (c : Instr) (rest : List Instr) (s : State),
    step { s with pending := c :: rest } = exec c { s with pending := rest }

/-- Every command is answered with a next state, in which the same commands and the same bytes on the wires wait: no command
stops the part. -/
def Obligations.EveryCommandAnswersNext : Prop :=
  ∀ (c : Instr) (s : State), ∃ t, exec c s = .next t ∧ t.pending = s.pending ∧ t.arrivals = s.arrivals

/-- With no command waiting the step takes what comes in on the wires. A byte joins the message in progress of its link, or ends
it: a length above 120, a bad stop bit and a bad check give LINE, a good message its request; a gap is GAP_DISCARD (R180).
With nothing coming in, the step runs the timed event that is due, and else lets 10 ms pass. That bytes are taken before
timed events, and what the step does when idle, is the model's choice (notes/assumptions 3 and 5). -/
def Obligations.IdleStepRunsDueEvent : Prop :=
  ∀ s : State, s.pending = [] →
    (s.arrivals = [] →
      (∀ c, s.dueEvent = some c → step s = exec c s) ∧
        (s.dueEvent = none → step s = .next { s with now := s.now + 1 })) ∧
    ∀ (l : Link) (rest : List Arrival),
      let u : State := { s with arrivals := rest }
      (s.arrivals = .gap l :: rest → step s = exec (.gapDiscard l) u) ∧
      ∀ b, s.arrivals = .byte l b :: rest →
        let holding (bs : List RxByte) : State := u.modLink l fun r => { r with arriving := bs }
        let bs := (s.link l).arriving ++ [b]
        (s.power = .off ∨ (s.link l).discarding = true → step s = .next u) ∧
        (s.power ≠ .off → (s.link l).discarding = false →
          (bs.length < 2 → step s = .next (holding bs)) ∧
          ∀ k n body, bs = k :: n :: body →
            (120 < n.byte.toNat → step s = exec (.line l .tooLong) (holding [])) ∧
            (n.byte.toNat ≤ 120 → body.length < n.byte.toNat + 1 → step s = .next (holding bs)) ∧
            (n.byte.toNat ≤ 120 → body.length = n.byte.toNat + 1 →
              step s =
                if ∃ x ∈ bs, x.stop = false then exec (.line l .badStopBit) (holding [])
                else if byteSum (bs.map (·.byte)) ≠ 0 then exec (.line l .badCheck) (holding [])
                else exec (decodeRequest l k.byte (body.dropLast.map (·.byte))) (holding [])))

/-- The state after reset keeps every law. The values of reset that no rule gives are the model's choice
(notes/assumptions 1 and 2). -/
def Obligations.ResetIsLawful : Prop :=
  State.reset.SettingsLawful ∧ State.reset.PagesLawful ∧ State.reset.LinesLawful ∧ State.reset.LogLawful ∧
    State.reset.ListLawful ∧ State.reset.OrdersLawful ∧ State.reset.PrintersLawful ∧ State.reset.PacksLawful ∧
    State.reset.FaresLawful ∧ State.reset.TableLawful ∧ State.reset.SlotsLawful ∧ State.reset.ShiftsLawful ∧
    State.reset.BlanksLawful

/-- Every step keeps the settings in their ranges and entry 0 of both discount pages at its fixed content (R2, R61, R62,
R65, R71, R124, R140, R149, R169, R197). -/
def Obligations.SettingsAndPagesKept : Prop :=
  ∀ s t : State, s.SettingsLawful → s.PagesLawful → step s = .next t → t.SettingsLawful ∧ t.PagesLawful

/-- Every step keeps the trace rings, the miss counts, the fault log, the cash-up list and the reply orders within their
bounds, and the list without two records of one window and shift number (R92, R106, R132, R175, R182). -/
def Obligations.CapacitiesKept : Prop :=
  ∀ s t : State, s.LinesLawful → s.LogLawful → s.ListLawful → s.OrdersLawful → step s = .next t →
    t.LinesLawful ∧ t.LogLawful ∧ t.ListLawful ∧ t.OrdersLawful

/-- Every step keeps the staged slots empty but in READY printers, and the return marks absent but in WITHDRAWN and FAULTED
ones (R69, R75, R82). -/
def Obligations.PrinterLawKept : Prop :=
  ∀ s t : State, s.PrintersLawful → step s = .next t → t.PrintersLawful

/-- Every step keeps the pack fields: present just in the magazines that are not EMPTY, first to last within R45, next between
first and last + 1, and no serial in two magazines of one stock type (R45, R47). It keeps the law of the exception list too,
that every entry names a drawn serial of a loaded pack of its type and no serial has two (R63), unless it loads a pack with a
serial of a recent issue. -/
def Obligations.PackLawKept : Prop :=
  ∀ s t : State, s.TableLawful → s.SlotsLawful → s.PacksLawful → step s = .next t →
    t.PacksLawful ∧ (s.BlanksLawful → s.LoadsFresh t → t.BlanksLawful)

/-- Every step keeps every job's charges and total within R21. -/
def Obligations.FareBoundsKept : Prop :=
  ∀ s t : State, s.FaresLawful → step s = .next t → t.FaresLawful

/-- Every step keeps the law of the job table: its bounds, its tags, the windows' loads and lists, the bound of the exception
list with its reservations (R25, R27, R36, R38, R64). -/
def Obligations.TableLawKept : Prop :=
  ∀ s t : State, s.TableLawful → step s = .next t → t.TableLawful

/-- Every step of a state with a lawful job table keeps the law of the slots: the slots hold the jobs of their states, every
committed count is the number of jobs staged or feeding, and it never exceeds the remaining blanks; a stage timer runs, and a
PRINT is pending, only for a job in the current slot; while the part does not run, no turn is in progress and the slots are
empty (R46, R47, R75, R79, R80, R94, R108, R109). That the slot keeps the expected serial and the sight request of the PRINT is
the model's choice (notes/assumptions 10). -/
def Obligations.SlotLawKept : Prop :=
  ∀ s t : State, s.TableLawful → s.SlotsLawful → step s = .next t → t.SlotsLawful

/-- Every step of a state with a lawful job table keeps the law of the shifts: active counts, the shifts of the jobs, CLOSING
shifts, the wait order and the held records (R27, R153, R155, R156, R174). -/
def Obligations.ShiftLawKept : Prop :=
  ∀ s t : State, s.TableLawful → s.ShiftsLawful → step s = .next t → t.ShiftsLawful

/-- A job that is in the table before and after a step differs at most in its state, printer, serial and retry count (R22,
R24, R29). -/
def Obligations.JobFieldsStayFixed : Prop :=
  ∀ s t : State, s.TableLawful → step s = .next t → ∀ j ∈ s.jobs, ∀ j' ∈ t.jobs, j'.tag = j.tag →
    { j' with state := j.state, printer := j.printer, serial := j.serial, retry := j.retry } = j

/-! ### Messages -/

/-- The message of every well-formed request sums to 0 and is decoded to that request on its link; its bytes, coming in one by
one on an idle receiver, run just that request; and every kind and body on a link spell either the one request whose kind and
body they are, or an unknown kind (R180, R181, R184, R191). Where the manual leaves a layout open it is the model's choice
(notes/assumptions 16). -/
def Obligations.RequestMessagesDecode : Prop :=
  (∀ (c : Instr) (l : Link) (m : List Byte), c.wf = true → encodeMessage c = some (l, m) →
    byteSum m = 0 ∧ decodeMessage l m = some c ∧
    ∀ (s : State) (rest : List Arrival), s.pending = [] → s.power ≠ .off → (s.link l).discarding = false →
      (s.link l).arriving = [] → s.arrivals = m.map (fun b => Arrival.byte l ⟨b, true⟩) ++ rest →
      core.run m.length s = exec c { s with arrivals := rest }) ∧
  ∀ (l : Link) (kind : Byte) (body : List Byte),
    decodeRequest l kind body = .unknownKind l kind ∨
      encodeRequest (decodeRequest l kind body) = some (l, kind, body)

/-- The bytes of a reply window by the checks of R96: a bad stop bit, a length byte above 100 and a byte after the last end the
turn at once; an idle of 12 bit times ends the message, and a whole reply is then judged by its sum, address, kind and layout;
one that is not whole is a TIMEOUT at once, which is the model's choice (notes/assumptions 5); the close of the window is a
TIMEOUT; outside a turn nothing is heard (R90, R91, R93, R96). So the bytes of a well-formed STATUS reply, framed for its
printer, bring about that reply as a GOOD_REPLY command. That a reply of the right layout is judged by the rest of R97 when
that command is taken, and a FORM miss then, is the model's choice (notes/assumptions 19). -/
def Obligations.StatusRepliesDecode : Prop :=
  (∀ (s : State) (rest : List Arrival) (a : Arrival), s.pending = [] → s.arrivals = a :: rest →
    let u : State := { s with arrivals := rest }
    let ends (c : Instr) : Prop := step s = exec c { u with heard := [] }
    let whole (bs : List RxByte) : Prop := ∃ x y n body, bs = x :: y :: n :: body ∧ body.length = n.byte.toNat + 1
    (s.turn = none → (∃ b, a = .lineByte b) ∨ a = .lineIdle ∨ a = .windowCloses → step s = .next u) ∧
    ∀ v, s.turn = some v →
      (∀ b, a = .lineByte b →
        (b.stop = false → ends (.miss .framing)) ∧
        (b.stop = true → s.heard.length = 2 → 100 < b.byte.toNat → ends (.miss .form)) ∧
        (b.stop = true → whole s.heard → ends (.miss .framing)) ∧
        (b.stop = true → ¬(s.heard.length = 2 ∧ 100 < b.byte.toNat) → ¬whole s.heard →
          step s = .next { u with heard := s.heard ++ [b] })) ∧
      (a = .lineIdle → s.heard = [] → step s = .next u) ∧
      (a = .lineIdle → s.heard ≠ [] → ¬whole s.heard → ends (.miss .timeout)) ∧
      (∀ x y n body, a = .lineIdle → s.heard = x :: y :: n :: body → body.length = n.byte.toNat + 1 →
        let content := body.dropLast.map (·.byte)
        (byteSum (s.heard.map (·.byte)) ≠ 0 → ends (.miss .check)) ∧
        (byteSum (s.heard.map (·.byte)) = 0 → x.byte ≠ printerCode v.printer → ends (.miss .address)) ∧
        (byteSum (s.heard.map (·.byte)) = 0 → x.byte = printerCode v.printer →
          y.byte ≠ 33 ∨ (∀ r, encodeStatus r ≠ content) → ends (.miss .form)) ∧
        ∀ r, byteSum (s.heard.map (·.byte)) = 0 → x.byte = printerCode v.printer → y.byte = 33 →
          encodeStatus r = content → ends (.goodReply r)) ∧
      (a = .windowCloses → ends (.miss .timeout))) ∧
  ∀ (v : Turn) (r : StatusReply) (s : State) (rest : List Arrival), r.wf = true → s.turn = some v → s.pending = [] →
    s.heard = [] →
    let m := lineFrame v.printer 33 (encodeStatus r)
    s.arrivals = m.map (fun b => Arrival.lineByte ⟨b, true⟩) ++ .lineIdle :: rest →
    core.run (m.length + 1) s = exec (.goodReply r) { s with arrivals := rest }

/-! ### Requests and their replies -/

/-- A request that is not handed to its block (R180, R182, R199): nothing is received without main supply or while the
receiver discards; with two held requests an OVERRUN refusal is owed unless four refusals stand; while a start is in course
the reply is WRONG_STATE. -/
def Obligations.RequestsNotTaken : Prop :=
  ∀ (c : Instr) (l : Link) (kind : Byte) (s : State), requestKind c = some (l, kind) →
    (s.power = .off ∨ (s.link l).discarding = true → exec c s = .next s) ∧
      (s.power ≠ .off → (s.link l).discarding = false → 2 ≤ (s.link l).countKind .held →
        ∃ t, exec c s = .next t ∧ s.SameOutside (replyParts l) t ∧
          (t.link l).order = (s.link l).order ++
            if (s.link l).countKind .owed < 4 then [⟨.owed, .refused 0 .overrun⟩] else []) ∧
      ∀ i, s.power = .starting i → (s.link l).discarding = false → (s.link l).countKind .held < 2 →
        s.Refuses c l kind .wrongState

/-- A request taken is given one reply, unless it begins a start; a refused one changes nothing else, and its refusal names
its kind (R183, R184). -/
def Obligations.TakenRequestsAnswered : Prop :=
  ∀ (c : Instr) (l : Link) (kind : Byte) (s : State), requestKind c = some (l, kind) → s.Listens l →
    (c ≠ .restart → c ≠ .coldStart → ∃ t r, exec c s = .next t ∧ s.Replied t l r) ∧
      ∀ t k code, exec c s = .next t → s.Replied t l (.refused k code) → k = kind ∧ s.SameOutside (replyParts l) t

/-! ### Fares and ISSUE -/

/-- The charge of a passenger line follows the four stages: the numerator, the rounded charge, the cap with RND, the minimum
with MIN (R9 to R12). -/
def Obligations.ChargeFollowsStages : Prop :=
  ∀ (e : DiscountEntry) (fare : Nat), fare ≤ 500000 → e.rate ≤ 10000 →
    ∃ n p0, n = fare * (10000 - e.rate) ∧ n ≤ 5000000000 ∧ e.mode.gives n p0 ∧
      p0 ≤ fare + 2 ∧ (e.mode ≠ .five → p0 ≤ fare) ∧
      ((chargeOf e fare).rnd = true ↔ min p0 fare * 10000 ≠ n) ∧
      ((chargeOf e fare).min = true ↔ 0 < e.rate ∧ min p0 fare < min e.minimum fare) ∧
      (chargeOf e fare).charge = (if (chargeOf e fare).min then min e.minimum fare else min p0 fare) ∧
      (chargeOf e fare).charge ≤ fare

/-- An ISSUE that passes its six checks is accepted: its job, numbered by R25, joins the end of the acceptance order with the
priced figures, and the shift counts it and takes its conditions (R17, R20, R25, R26). -/
def Obligations.IssueAccepted : Prop :=
  ∀ (w : Window) (r : IssueReq) (s : State) (c : IssueContent), s.Listens (.window w) → formCheck r = .ok c →
    (s.shift w).state = .opened → privileged (s.window w).profile s.fare s.fare.active c = true → s.jobs.length < 32 →
    s.load w < 8 →
    let p := price s.fare s.fare.active (s.window w).profile.limit c
    let g : Tag := ⟨w, s.freeNumber w 12 (s.shift w).nextJob⟩
    refusingCode (s.window w).profile p.conds = none →
    ∃ t, exec (.issue w r) s = .next t ∧
      s.Replied t (.window w) (.accepted 129 (.issued g p.total p.conds p.conds.big)) ∧
      t.jobs.map (·.tag) = s.jobs.map (·.tag) ++ [g] ∧
      (s.TableLawful → s.numberCarried w g.job = false) ∧
      (∃ j ∈ t.jobs, { j with state := .queued, printer := none } = newJob g (s.shift w).number s.fare.active c p) ∧
      t.shift w = { s.shift w with
        nextJob := g.job + 1, active := (s.shift w).active + 1, sticky := (s.shift w).sticky.union p.conds } ∧
      s.SameOutside (dispatchParts ++ .shift w :: replyParts (.window w)) t

/-- What the checks of an ISSUE look at, and its refusals in their order. The form check gives BAD_FORM before BAD_VALUE, or the
content (R6, R7); the privilege check looks at COUPON and RESTRICTED (R8); pricing gives the line amounts, the total and the
condition set (R13 to R16); the first condition of the table that no mask flag passes over refuses (R18). A refusal at pricing
adds the conditions to the sticky set and gives the condition set and the total (R17, R20, R26). -/
def Obligations.IssueRefusedInOrder : Prop :=
  (∀ r : IssueReq,
    let ticket : Prop := r.stock = 1
    let badForm : Prop := r.lines.length = 0 ∨ 4 < r.lines.length ∨ 16 < r.route.length ∨
      (ticket ∧ (r.supplement ≠ 0xFFFFFF ∨ r.coach ≠ 0)) ∨ (r.coach = 0 ∧ r.seat ≠ 0)
    let badLine (l : LineReq) : Prop := (l.fareClass ≠ 1 ∧ l.fareClass ≠ 2) ∨ l.quantity = 0 ∨ 9 < l.quantity.toNat ∨
      500000 < l.fare.toNat ∨ 31 < l.code.toNat
    let badValue : Prop := (r.stock ≠ 1 ∧ r.stock ≠ 2) ∨ r.tender = 0 ∨ 4 < r.tender.toNat ∨ (∃ l ∈ r.lines, badLine l) ∨
      (r.supplement ≠ 0xFFFFFF ∧ 50000 < r.supplement.toNat) ∨ (∃ c ∈ r.route, c.toNat < 32 ∨ 126 < c.toNat) ∨
      (r.coach ≠ 0 ∧ (r.coach.toNat < 65 ∨ 90 < r.coach.toNat ∨ r.seat = 0 ∨ 99 < r.seat.toNat))
    (badForm → formCheck r = .error .badForm) ∧ (¬badForm → badValue → formCheck r = .error .badValue) ∧
      (¬badForm → ¬badValue → ∃ c, formCheck r = .ok c ∧ stockOf r.stock = some c.stock ∧ tenderOf r.tender = some c.tender ∧
        c.supplement = (if r.supplement = 0xFFFFFF then none else some r.supplement.toNat) ∧ c.route = r.route ∧
        c.validity = r.validity ∧ c.seat = (if r.coach = 0 then none else some ⟨r.coach, r.seat⟩) ∧
        c.lines.map (·.2) = r.lines ∧ ∀ x ∈ c.lines, fareClassOf x.2.fareClass = some x.1)) ∧
  (∀ (f : Profile) (fare : FareUnit) (g : Page) (limit : Nat) (c : IssueContent),
    let entry (x : FareClass × LineReq) : DiscountEntry := fare.entry g x.2.code.toNat
    let charge (x : FareClass × LineReq) : Charge := chargeOf (entry x) x.2.fare.toNat
    let p := price fare g limit c
    (privileged f fare g c = true ↔ (c.stock = .coupon → f.flags.getLsbD 0 = true) ∧
      ∀ x ∈ c.lines, (entry x).restricted = true → f.flags.getLsbD 2 = true) ∧
    p.lines = c.lines.map (fun x => ⟨x.1, x.2.quantity.toNat, x.2.fare.toNat, x.2.code.toNat, (charge x).charge,
      x.2.quantity.toNat * (charge x).charge⟩) ∧
    p.total = (p.lines.map (·.amount)).sum + c.supplement.getD 0 ∧
    (p.conds.rnd = true ↔ ∃ x ∈ c.lines, (charge x).rnd = true) ∧
    (p.conds.min = true ↔ ∃ x ∈ c.lines, (charge x).min = true) ∧ (p.conds.big = true ↔ limit < p.total) ∧
    (p.conds.zero = true ↔ p.total = 0) ∧ (p.conds.ovf = true ↔ 9999999 < p.total) ∧ p.conds.sat = false) ∧
  (∀ (f : Profile) (c : CondSet),
    let rows : List (Bool × Bool × Code) :=
      [(c.ovf, false, .overflow), (c.big, f.flags.getLsbD 7, .condBig), (c.zero, f.flags.getLsbD 8, .condZero),
        (c.min, f.flags.getLsbD 6, .condMin), (c.rnd, f.flags.getLsbD 5, .condRnd)]
    refusingCode f c = (rows.find? fun x => x.1 && !x.2.1).map (·.2.2)) ∧
  ∀ (w : Window) (r : IssueReq) (s : State), s.Listens (.window w) →
    (∀ code, formCheck r = .error code → s.Refuses (.issue w r) (.window w) 1 code) ∧
      ∀ c, formCheck r = .ok c →
        let p := price s.fare s.fare.active (s.window w).profile.limit c
        if (s.shift w).state ≠ .opened then s.Refuses (.issue w r) (.window w) 1 .shiftState
        else if privileged (s.window w).profile s.fare s.fare.active c = false then
          s.Refuses (.issue w r) (.window w) 1 .notPermitted
        else if 32 ≤ s.jobs.length then s.Refuses (.issue w r) (.window w) 1 .queueFull
        else if 8 ≤ s.load w then s.Refuses (.issue w r) (.window w) 1 .windowFull
        else ∀ code, refusingCode (s.window w).profile p.conds = some code →
          ∃ t, exec (.issue w r) s = .next t ∧ s.Replied t (.window w) (.priced code p.conds p.total) ∧
            t.shift w = { s.shift w with sticky := (s.shift w).sticky.union p.conds } ∧
            s.SameOutside (.shift w :: replyParts (.window w)) t

/-! ### CANCEL, QUERY JOB, STATUS and VOID -/

/-- CANCEL by what the tag is found as: a QUEUED or STAGED job leaves the table, its shift counts one job less and, when it was
CLOSING and has no more, is DECLARING or computed (R155), and only a STAGED one's departure is a dispatch opportunity, as the
model reads R73 (notes/assumptions 6): its slot is empty, its place in the committed count given up, and the opportunity is
judged in that state; every other tag is refused (R32, R33, R75). -/
def Obligations.CancelByTag : Prop :=
  ∀ (w : Window) (n : JobNo) (s : State), s.Listens (.window w) →
    match s.findJob ⟨w, n⟩ with
    | some j =>
      if j.state = .queued ∨ j.state = .staged then
        ∃ t, exec (.cancel w n) s = .next t ∧ s.Replied t (.window w) (.accepted 130 .cancelled) ∧
          t.jobs.map (·.tag) = (s.jobs.map (·.tag)).filter (· ≠ ⟨w, n⟩) ∧
          s.JobsLeft t w (s.shift w) 1 ∧
          (j.state = .queued → s.SameOutside (.jobs :: shiftParts w ++ replyParts (.window w)) t) ∧
          (j.state = .staged → ∀ p, j.printer = some p →
            let m : MagId := ⟨p, j.stock⟩
            ∃ u : State, u.jobs = s.jobs.filter (fun x => x.tag ≠ ⟨w, n⟩) ∧ u.printer p = { s.printer p with staged := none } ∧
              u.mag m = { s.mag m with committed := (s.mag m).committed - 1 } ∧
              s.SameOutside (.jobs :: .printer p :: .mag m :: shiftParts w) u ∧
              ∀ q ∈ dispatchParts, (u.opportunity []).SameAt t q) ∧
          s.SameOutside (dispatchParts ++ .jobs :: shiftParts w ++ replyParts (.window w)) t
      else s.Refuses (.cancel w n) (.window w) 2 .tooLate
    | none =>
      if ∃ e ∈ (s.window w).recent, e.tag = ⟨w, n⟩ then s.Refuses (.cancel w n) (.window w) 2 .tooLate
      else s.Refuses (.cancel w n) (.window w) 2 .unknownJob

/-- QUERY JOB and both forms of STATUS give what they find and change nothing but their reply. The window form gives the
window's own view; the office form gives by its code the device, a printer, the routing, a magazine, the stock types with the
exception list, the fault log, a window, or the cash-up list with the tolerance table; another section or index is refused
(R30, R37, R62, R67, R87, R107, R144, R163, R165, R175, R188). -/
def Obligations.ReadsOnlyReply : Prop :=
  ∀ (w : Window) (n : JobNo) (x i : Byte) (s : State),
    let refused : Prop := s.Refuses (.officeStatus x i) .office 10 .badValue
    let gives (shows : Body → Prop) : Prop :=
      ∃ t b, exec (.officeStatus x i) s = .next t ∧ s.SameOutside (replyParts .office) t ∧
        s.Replied t .office (.accepted 138 b) ∧ shows b
    let jobsOf (w : Window) : Nat := s.jobs.countP fun j => j.tag.window = w
    let loadOf (w : Window) : Nat := jobsOf w + (s.window w).notices.countP fun r => r.target = .carried
    let able (p : Printer) (k : Stock) : Prop :=
      (s.printer p).state = .ready ∧ (s.printer p).staged = none ∧ (s.mag ⟨p, k⟩).state = .active ∧
        (s.mag ⟨p, k⟩).committed < (s.mag ⟨p, k⟩).remaining
    let printable (j : Job) : Prop :=
      able (s.routes.get j.tag.window).home j.stock ∨
        ∃ a, (s.routes.get j.tag.window).alternate = some a ∧ (s.window j.tag.window).profile.flags.getLsbD 4 = true ∧
          able a j.stock
    let ownView (w : Window) (v : ShiftView) : Prop :=
      let h := s.shift w
      let f := (s.window w).profile
      v = ⟨h.state, h.number, h.clerk, h.float, h.openStamp, h.active, h.tallies, h.sticky, h.ended, f.flags, f.limit,
        h.staged, h.declared⟩
    let brief (p : Printer) (b : PrinterBrief) : Prop :=
      b = ⟨p, (s.printer p).state, (s.mag ⟨p, .ticket⟩).low, (s.mag ⟨p, .coupon⟩).low⟩
    let logged (st : RecordState) : Nat := s.faults.records.countP fun r => r.state = st
    (s.Listens (.window w) →
      (∃ t, exec (.queryJob w n) s = .next t ∧ s.SameOutside (replyParts (.window w)) t ∧
        s.Replied t (.window w)
          (match s.findJob ⟨w, n⟩, (s.window w).recent.find? (·.tag = ⟨w, n⟩) with
          | some j, _ => .accepted 131 (.job j (s.jobs.findIdx (·.tag = ⟨w, n⟩) + 1))
          | none, some e => .accepted 131 (.recent e)
          | none, none => .refused 3 .unknownJob)) ∧
      ∃ t v, exec (.windowStatus w) s = .next t ∧ s.SameOutside (replyParts (.window w)) t ∧
        s.Replied t (.window w) (.accepted 138 (.windowStatus v)) ∧
        v.active = jobsOf w ∧ v.load = loadOf w ∧ (v.full = true ↔ 32 ≤ s.jobs.length) ∧
        brief (s.routes.get w).home v.home ∧
        (∀ a, (s.routes.get w).alternate = some a → ∃ b, v.alternate = some b ∧ brief a b) ∧
        ((s.routes.get w).alternate = none → v.alternate = none) ∧
        (v.noPrinter = true ↔ ∃ before j after, s.jobs = before ++ j :: after ∧ j.state = .queued ∧ j.tag.window = w ∧
          (∀ y ∈ before, ¬(y.state = .queued ∧ y.tag.window = w)) ∧ ¬printable j) ∧
        ownView w v.shift) ∧
    (s.Listens .office →
      match x.toNat with
      | 1 =>
        if i ≠ 0 then refused
        else gives fun b => ∃ v, b = .device v ∧ v.clock = s.clock ∧ v.linkRate = s.linkRate ∧ v.lineRate = s.lineRate ∧
          v.page = s.fare.active ∧ v.voidPeriod = s.voidPeriod ∧ v.lead = s.faults.lead ∧ v.active = s.jobs.length ∧
          (v.flags.empty = true ↔ s.jobs.length = 0) ∧ (v.flags.half = true ↔ 16 ≤ s.jobs.length) ∧
          (v.flags.full = true ↔ 32 ≤ s.jobs.length) ∧ ∀ w, v.windows.get w = (jobsOf w, loadOf w)
      | 2 =>
        match printerOf i with
        | none => refused
        | some p => gives fun b => ∃ v l, b = .printer p v l ∧
            let r := s.printer p
            let m := s.lineRec p
            (v.state = r.state ∧ v.returnMark = r.returnMark ∧ v.staged = r.staged ∧ v.lastStock = r.lastStock ∧
              v.base = r.base ∧ v.multiplier = r.multiplier ∧ v.changeover = r.changeover) ∧
            (r.current = none → v.current = none) ∧
            (∀ c, r.current = some c → v.current = (s.findJob c.tag).map fun j => (j.tag, j.state)) ∧
            (r.staged = none → v.waitLeft = 0) ∧
            (∀ g j, r.staged = some g → s.findJob g = some j →
              v.waitLeft = match r.lastOutcome with
                | none => 0
                | some o => 10 * (o + 10 * (r.base * r.multiplier +
                    match r.lastStock with
                    | some k => if k = j.stock then 0 else r.changeover
                    | none => 0) - s.now)) ∧
            l.rate = s.lineRate ∧ l.lastTaken = m.lastTaken ∧ l.synced = m.synced ∧ l.misses = m.misses ∧
            l.lastMarks = m.lastMarks ∧ l.ringLength = m.ring.length ∧
            l.pendingCmd = match m.pendingCmd with
              | none => .none
              | some (.print c) => .print c.tag
              | some .clear => .clear
      | 3 => if i ≠ 0 then refused else gives fun b => b = .routing s.routes
      | 4 =>
        match magOf i with
        | none => refused
        | some m => gives fun b => b = .magazineStatus m (s.mag m)
      | 5 =>
        if i ≠ 0 then refused
        else gives fun b => ∃ v, b = .stock v ∧ v.settings = s.stock ∧ v.entries = s.exceptions.length ∧
          v.reservations = s.jobs.countP (fun j => j.state = .feeding ∨ j.state = .printing ∨ j.state = .delivering) ∧
          v.free = 64 - v.entries - v.reservations
      | 6 =>
        if i ≠ 0 then refused
        else gives fun b => b = .faults ⟨s.faults.records.length, logged .capturing, logged .opened, logged .acknowledged,
          s.faults.records.countP (fun r => r.state = .capturing ∧ r.ackPending = true), s.faults.overrun, s.faults.lead,
          s.faults.nextNumber⟩
      | 7 =>
        match windowOf i with
        | none => refused
        | some w => gives fun b => ∃ v, b = .window w v ∧ ownView w v.shift ∧ v.forced = (s.shift w).forced ∧
            v.closeStamp = (s.shift w).closeStamp ∧ v.waitOrder = s.waitOrder ∧ v.latched = (s.window w).snapshot.isSome
      | 8 =>
        if i ≠ 0 then refused
        else gives fun b => ∃ v, b = .cashUpStatus v ∧ v.records = s.cashUps.length ∧
          v.uncollected = s.cashUps.countP (fun r => r.collected = false) ∧ v.tolerance = s.tolerance ∧
          ∀ w k o, (w, k, o) ∈ v.waiting ↔
            1 ≤ k ∧ s.waitOrder[k - 1]? = some w ∧ ∃ r, (s.shift w).heldRecord = some r ∧ r.overall = o
      | _ => refused)

/-- VOID by its checks in their order; accepted, it makes the VOIDED entry, raises the voided count, takes the total off the
tender's amount unless that is held, raises the void count and amount, and marks the recent issue (R66, R125, R126, R159). -/
def Obligations.VoidByChecks : Prop :=
  ∀ (w : Window) (n : JobNo) (s : State), s.Listens (.window w) →
    if (s.window w).profile.void = false then s.Refuses (.void w n) (.window w) 4 .notPermitted
    else if (s.shift w).state ≠ .opened then s.Refuses (.void w n) (.window w) 4 .shiftState
    else match (s.window w).recent.find? fun e => e.tag = ⟨w, n⟩ ∧ e.voided = false with
      | none => s.Refuses (.void w n) (.window w) 4 .unknownJob
      | some e =>
        if s.voidPeriod < ageOf e.issued s.clock then s.Refuses (.void w n) (.window w) 4 .voidExpired
        else if s.free = 0 then s.Refuses (.void w n) (.window w) 4 .listFull
        else if s.voidable e.stock e.serial = false then s.Refuses (.void w n) (.window w) 4 .wrongState
        else ∃ t, exec (.void w n) s = .next t ∧
          s.Replied t (.window w) (.accepted 132 (.voided e.tag e.serial e.total e.tender)) ∧
          t.exceptions = s.exceptions ++ [⟨e.stock, e.serial, .voided, .void, some e.tag, none, s.clock⟩] ∧
          t.stock.get e.stock =
            { s.stock.get e.stock with voided := min ((s.stock.get e.stock).voided + 1) 999999 } ∧
          (let h := s.shift w
           let k := h.tallies.tender.get e.tender
           t.shift w =
            { h with
              tallies := { h.tallies with
                tender := h.tallies.tender.set e.tender
                  (if k.net = 999999999 ∧ h.sticky.sat = true then k else { k with net := k.net - e.total })
                voidCount := min (h.tallies.voidCount + 1) 65535
                voidAmount := min (h.tallies.voidAmount + e.total) 999999999 }
              sticky := { h.sticky with
                sat := h.sticky.sat || decide (65535 < h.tallies.voidCount + 1) ||
                  decide (999999999 < h.tallies.voidAmount + e.total) } }) ∧
          (t.window w).recent =
            (s.window w).recent.map (fun x => if x.tag = e.tag then { x with voided := true } else x) ∧
          s.SameOutside ([.exceptions, .stock e.stock, .shift w, .recent w] ++ replyParts (.window w)) t

/-! ### Shifts and declarations -/

/-- OPEN SHIFT opens a CLOSED shift anew with the next number, its shift notice and the notices of its recent issues dropped
and every other one kept in its order (the one at the head may begin to go out), and CLOSE SHIFT closes an OPEN one to CLOSING or DECLARING with
a shift notice; in every other state, and for an operand out of range, they are refused (R152, R153, R157). -/
def Obligations.OpenAndCloseShift : Prop :=
  ∀ (w : Window) (clerk : Half) (float : Three) (s : State), s.Listens (.window w) →
    (if clerk.toNat = 0 ∨ 9999 < clerk.toNat ∨ 999999 < float.toNat then
      s.Refuses (.openShift w clerk float) (.window w) 6 .badValue
    else match (s.shift w).state with
      | .closed =>
        ∃ t, exec (.openShift w clerk float) s = .next t ∧
          s.Replied t (.window w) (.accepted 134 (.opened ((s.shift w).number + 1) clerk.toNat s.clock)) ∧
          t.shift w =
            { state := .opened, number := (s.shift w).number + 1, clerk := some clerk.toNat, float := float.toNat
              openStamp := some s.clock, closeStamp := none, tallies := .zero, sticky := .none
              staged := ⟨none, none, none, none⟩, declared := ⟨none, none, none, none⟩, ended := false
              forced := false, active := (s.shift w).active, heldRecord := (s.shift w).heldRecord
              nextJob := (s.shift w).nextJob } ∧
          (t.window w).recent = [] ∧
          (∃ begun, begun ++ (t.window w).notices = (s.window w).notices.filter (·.outlivesShift) ∧
            (begun = [] ∨ ∃ r, begun = [r] ∧
              (t.link (.window w)).sending = some (.notice (t.noticeNow w r.notice)))) ∧
          s.SameOutside (.shift w :: .recent w :: replyParts (.window w)) t
      | .listWait => s.Refuses (.openShift w clerk float) (.window w) 6 .backlog
      | .opened | .closing | .declaring => s.Refuses (.openShift w clerk float) (.window w) 6 .shiftState) ∧
    if (s.shift w).state = .opened then
      ∃ t st, exec (.closeShift w) s = .next t ∧
        st = (if 0 < (s.shift w).active then .closing else .declaring) ∧
        s.Replied t (.window w) (.accepted 135 (.shift st (s.shift w).active)) ∧
        t.shift w = { s.shift w with state := st, closeStamp := some s.clock } ∧
        t.NoticeOut w .shift (.shift ⟨w, (s.shift w).number, st, (s.shift w).active, (s.shift w).ended,
          (s.shift w).forced, none⟩) ∧
        s.SameOutside (.shift w :: replyParts (.window w)) t
    else s.Refuses (.closeShift w) (.window w) 7 .shiftState

/-- DECLARE stages an amount. DECLARE END makes the staged values the declared ones and sets the mark; with jobs left the
shift stays CLOSING with a notice, and otherwise it is computed: its record is filed and it becomes CLOSED, or it holds the
record in LIST_WAIT when the list has no room or shifts wait (R155, R156, R166, R167, R174). -/
def Obligations.DeclareAndDeclareEnd : Prop :=
  ∀ (w : Window) (tender : Byte) (amount : Four) (s : State), s.Listens (.window w) →
    (match tenderOf tender with
    | none => s.Refuses (.declare w tender amount) (.window w) 8 .badValue
    | some k =>
      (999999999 < amount.toNat → s.Refuses (.declare w tender amount) (.window w) 8 .badValue) ∧
      (amount.toNat ≤ 999999999 → ¬(s.shift w).takesDeclarations →
        s.Refuses (.declare w tender amount) (.window w) 8 .shiftState) ∧
      (amount.toNat ≤ 999999999 → (s.shift w).takesDeclarations →
        ∃ t, exec (.declare w tender amount) s = .next t ∧
          s.Replied t (.window w) (.accepted 136 (.staged (t.shift w).staged)) ∧
          t.shift w = { s.shift w with staged := (s.shift w).staged.set k (some amount.toNat) } ∧
          s.SameOutside (.shift w :: replyParts (.window w)) t)) ∧
    let h : ShiftRec := { s.shift w with declared := (s.shift w).staged, ended := true }
    let r := cashUpOf w h s.tolerance
    (¬(s.shift w).takesDeclarations → s.Refuses (.declareEnd w) (.window w) 9 .shiftState) ∧
    ((s.shift w).takesDeclarations → h.state = .closing → 0 < h.active →
      ∃ t, exec (.declareEnd w) s = .next t ∧ s.Replied t (.window w) (.accepted 137 (.shift .closing h.active)) ∧
        t.shift w = h ∧
        t.NoticeOut w .shift (.shift ⟨w, h.number, .closing, h.active, true, h.forced, none⟩) ∧
        s.SameOutside (.shift w :: replyParts (.window w)) t) ∧
    ((s.shift w).takesDeclarations → h.state = .declaring ∨ h.active = 0 →
      ∃ t st, exec (.declareEnd w) s = .next t ∧ s.Replied t (.window w) (.accepted 137 (.computed st r.overall)) ∧
        (if s.waitOrder = [] ∧ s.cashUps.length < 12 ∧ ∀ x ∈ s.cashUps, ¬(x.window = w ∧ x.shift = h.number) then
          st = .closed ∧ t.cashUps = s.cashUps ++ [r] ∧ t.waitOrder = s.waitOrder ∧
            t.shift w = { h with state := .closed, heldRecord := none }
        else
          st = .listWait ∧ t.cashUps = s.cashUps ∧ t.waitOrder = s.waitOrder ++ [w] ∧
            t.shift w = { h with state := .listWait, heldRecord := some r }) ∧
        t.NoticeOut w .shift (.shift ⟨w, h.number, st, h.active, true, h.forced, some r.overall⟩) ∧
        s.SameOutside (shiftParts w ++ replyParts (.window w)) t)

/-- The figures of a cash-up: expected amounts with the float in CASH, variances, tender results by the first case that
applies, and the overall result (R170, R171, R172). -/
def Obligations.CashUpFigures : Prop :=
  ∀ (w : Window) (h : ShiftRec) (tol : PerTender Tolerance),
    let r := cashUpOf w h tol
    (∀ k : Tender,
      let x := r.tender.get k
      let tally := h.tallies.tender.get k
      let held := h.sticky.sat = true ∧ (tally.net = 999999999 ∨ tally.count = 65535)
      x.expected = tally.net + (if k = .cash then h.float else 0) ∧
        (tally.net ≤ 999999999 → h.float ≤ 999999 → x.expected ≤ 1000999998) ∧
        (∀ d, h.declared.get k = some d → ¬held → x.variance = some ((d : Int) - (x.expected : Int))) ∧
        (held ∨ h.declared.get k = none → x.variance = none) ∧
        (∀ d v, h.declared.get k = some d → x.variance = some v → tally.net ≤ 999999999 → h.float ≤ 999999 →
          d ≤ 999999999 → -1000999998 ≤ v ∧ v ≤ 999999999) ∧
        (held → x.result = .unordered) ∧
        (¬held → h.declared.get k = none → x.result = if (tol.get k).required then .unordered else .notDeclared) ∧
        ∀ v, x.variance = some v → x.result =
          if (tol.get k).low ≤ v ∧ v ≤ (tol.get k).high then .balanced
          else if v < (tol.get k).low then .short else .over) ∧
      r.overall =
        if ∃ k ∈ [Tender.cash, .card, .warrant, .voucher], (r.tender.get k).result = .unordered then .unordered
        else if ∃ k ∈ [Tender.cash, .card, .warrant, .voucher], (r.tender.get k).result = .short then .short
        else if ∃ k ∈ [Tender.cash, .card, .warrant, .voucher], (r.tender.get k).result = .over then .over
        else .balanced

/-! ### The clock, the starts and the cursor -/

/-- SET CLOCK sets the clock and removes the clock-not-set mark, and a minute above 1,439 is refused; an advance is one minute
on, over midnight and over day 65,535, and leaves the mark (R189, R197). That the command itself brings the time to the
advance is the model's choice (notes/assumptions 4). -/
def Obligations.ClockSetAndAdvanced : Prop :=
  ∀ (day minute : Half) (s : State),
    (s.Listens .office →
      if 1439 < minute.toNat then s.Refuses (.setClock day minute) .office 11 .badValue
      else ∃ t, exec (.setClock day minute) s = .next t ∧
        s.Replied t .office (.accepted 139 (.clock ⟨day, minute.toNat, false⟩)) ∧
        t.clock = ⟨day, minute.toNat, false⟩ ∧ t.clockSince = s.now ∧ s.SameOutside (.clock :: replyParts .office) t) ∧
    (s.clock.minute ≤ 1439 →
      ∃ t, exec .clockAdvance s = .next t ∧ t.now = max s.now (s.clockSince + 6000) ∧ t.clockSince = t.now ∧
        t.clock =
          (if s.clock.minute < 1439 then ⟨s.clock.day, s.clock.minute + 1, s.clock.notSet⟩
          else ⟨s.clock.day + 1, 0, s.clock.notSet⟩) ∧
        s.SameOutside [.time, .clock] t)

/-- RESTART always begins a warm start, and COLD START a cold one only with every shift CLOSED, every magazine EMPTY and an
empty cash-up list; what the retention store keeps is not touched at the beginning (R190, R195, R198, R199; the split between
beginning and completion is the model's reading, notes/assumptions 14). That a receiver stops discarding until a gap when a
start begins, a part of `VolatileCleared`, is the model's choice (notes/assumptions 5). -/
def Obligations.OfficeStartsBegin : Prop :=
  ∀ s : State, s.Listens .office →
    (∃ t, exec .restart s = .next t ∧ t.power = .starting ⟨true, .office, s.now⟩ ∧ s.VolatileCleared t ∧
      s.SameOutside (.power :: volatileParts) t) ∧
    ((∀ w, (s.shift w).state = .closed) → (∀ m, (s.mag m).state = .empty) → s.cashUps = [] →
      ∃ t, exec .coldStart s = .next t ∧ t.power = .starting ⟨false, .office, s.now⟩ ∧ s.VolatileCleared t ∧
        s.SameOutside (.power :: volatileParts) t) ∧
    (¬((∀ w, (s.shift w).state = .closed) ∧ (∀ m, (s.mag m).state = .empty) ∧ s.cashUps = []) →
      s.Refuses .coldStart .office 13 .inUse)

/-- The supplies: at power-on the straps are read and the start made is the one of the standby monitor mark; a loss of the
main supply keeps what the retention store keeps; a fall of the retention supply clears the mark and nothing else (R89,
R179, R195, R196; notes/assumptions 14). That a receiver stops discarding until a gap then, a part of `VolatileCleared`, is
the model's choice (notes/assumptions 5). -/
def Obligations.SuppliesComeAndGo : Prop :=
  ∀ (x : Straps) (s : State),
    (s.power = .off →
      ∃ t, exec (.powerOn x) s = .next t ∧ t.power = .starting ⟨s.standby, .power, s.now⟩ ∧ s.VolatileCleared t ∧
        t.lineRate = (if x.printer then .b38400 else .b19200) ∧
        t.linkRate = (match x.link1, x.link2 with
          | false, false => .b9600 | true, false => .b19200 | false, true => .b38400 | true, true => .b57600) ∧
        s.SameOutside (.power :: .rates :: volatileParts) t) ∧
    (s.power ≠ .off →
      ∃ t, exec .mainSupplyLoss s = .next t ∧ t.power = .off ∧ s.VolatileCleared t ∧
        s.SameOutside (.power :: volatileParts) t) ∧
    ∃ t, exec .retentionSupplyLow s = .next t ∧ t.standby = false ∧ s.SameOutside [.standby] t

/-- A cold start completes: every kept item is at its value after cold start; at power-on the clock is day 0, minute 0 with
the clock-not-set mark and the log holds the RETENTION_LOST record; on the office's request the clock stands, the log is empty
and the reply joins the office link's reply order (R1, R44, R68, R88, R143, R145, R146, R164, R169, R178, R198, R199). -/
def Obligations.ColdStartCompletes : Prop :=
  ∀ (i : StartInfo) (s : State), s.power = .starting i → i.warm = false →
    ∃ t, exec .startComplete s = .next t ∧ t.power = .running ∧ t.standby = true ∧
      (∀ g d, t.fare.entry g d = ⟨0, .nearest, 0, false⟩) ∧ t.fare.active = .zero ∧ t.jobs = [] ∧ t.exceptions = [] ∧
      (∀ m, t.mag m = ⟨.empty, false, none, 0, 0, false, false⟩) ∧
      t.stock.get .ticket = ⟨100, none, 20, 0, 0⟩ ∧ t.stock.get .coupon = ⟨50, none, 20, 0, 0⟩ ∧
      (∀ p, t.printer p = ⟨.offline, false, none, none, none, none, 2, 1, 8, none⟩) ∧
      t.routes = ⟨⟨.p1, some .p2⟩, ⟨.p1, some .p2⟩, ⟨.p2, some .p1⟩, ⟨.p3, some .p4⟩, ⟨.p4, some .p3⟩, ⟨.p4, some .p3⟩⟩ ∧
      (∀ p, t.lineRec p = ⟨none, 0, false, 0, none, []⟩) ∧ t.turn = none ∧ t.rotation = .p1 ∧
      t.faults.lead = 5 ∧ t.faults.overrun = false ∧
      (∀ w, t.window w = ⟨⟨.closed, 0, none, 0, none, none, .zero, .none, ⟨none, none, none, none⟩, ⟨none, none, none, none⟩,
        false, false, 0, none, 0⟩, ⟨0x1F3, 500000⟩, [], [], none⟩) ∧
      t.waitOrder = [] ∧ t.tolerance = ⟨⟨-200, 200, true⟩, ⟨0, 0, false⟩, ⟨0, 0, false⟩, ⟨0, 0, true⟩⟩ ∧ t.cashUps = [] ∧
      t.voidPeriod = 10 ∧ t.cursor = ⟨none, 1, .sequential⟩ ∧ t.linkRate = s.linkRate ∧ t.lineRate = s.lineRate ∧
      (match i.cause with
      | .power => t.clock = ⟨0, 0, true⟩ ∧ t.faults.nextNumber = 1 ∧
          t.faults.records = [⟨0, .retentionLost, none, none, none, none, none, none, none, ⟨0, 0, true⟩, .opened, false, 0, []⟩] ∧
          (t.link .office).order = (s.link .office).order
      | .office => t.clock = s.clock ∧ t.faults.nextNumber = 0 ∧ t.faults.records = [] ∧
          (t.link .office).order = (s.link .office).order ++ [⟨.start, .accepted 141 (.started false s.clock)⟩])

/-- A warm start completes: the recovery leaves just the jobs retained in FEEDING, DELIVERING and IN_DOUBT, all IN_DOUBT with a
serial; a FEEDING job draws the next blank of its magazine; the blanks of FEEDING, PRINTING and DELIVERING have their entries in
acceptance order, and those of PRINTING are counted spoiled; every job settled has its notice; every committed count is 0, no
reservation stands, ACTIVE and PENDING magazines are HELD (RESTART), the not-yet-sighted and sight-due marks stand, and a draw
judges the low mark; each shift counts the jobs left and otherwise stands, but a CLOSING one with none left is DECLARING with a
notice, or computed when its declaration has ended; the log keeps its records in their order, the CAPTURING ones closed short,
with room made for the RESTART record, its newest; and the items of other blocks stand (R44, R62, R68, R128, R135, R143, R145,
R155, R164, R178, R198, R199). That the shifts computed then are taken in the order of their windows is the model's choice
(notes/assumptions 8). -/
def Obligations.WarmStartCompletes : Prop :=
  ∀ (i : StartInfo) (s : State), s.power = .starting i → i.warm = true → s.TableLawful → s.SlotsLawful →
    ∃ t, exec .startComplete s = .next t ∧ t.power = .running ∧ t.standby = true ∧
      t.jobs.map (·.tag) =
        (s.jobs.filter fun j => j.state = .feeding ∨ j.state = .delivering ∨ j.state = .inDoubt).map (·.tag) ∧
      (∀ j ∈ t.jobs, j.state = .inDoubt ∧ j.serial.isSome = true) ∧ t.reservations = 0 ∧
      (∃ es, t.exceptions = s.exceptions ++ es ∧
        es.map (fun e => (e.stock, e.tag, e.disposition)) =
          (s.jobs.filter fun j => j.state = .feeding ∨ j.state = .printing ∨ j.state = .delivering).map (fun j =>
            (j.stock, some j.tag, if j.state = .printing then Disposition.spoiled else .inDoubt)) ∧
        (∀ e ∈ es, e.reason = .restart ∧ e.sighted = none ∧ e.stamp = s.clock) ∧
        ∀ j ∈ s.jobs, ∀ e ∈ es, e.tag = some j.tag →
          (j.state = .printing ∨ j.state = .delivering → e.serial = j.serial.getD 0) ∧
          (j.state = .feeding → ∀ p, j.printer = some p →
            s.jobs.countP (·.feedsFrom ⟨p, j.stock⟩) = 1 → e.serial = (s.mag ⟨p, j.stock⟩).next)) ∧
      (∀ j ∈ s.jobs,
        let out (x : RefTarget) (k : JobNoticeKind) (serial : Option Nat) : Prop :=
          t.NoticeOut j.tag.window x (.job ⟨k, j.tag, j.stock, j.total, serial⟩)
        let doubt (x : Nat) : Prop := { j with state := .inDoubt, serial := some x } ∈ t.jobs ∧
          out (.job j.tag.job) .inDoubt (some x)
        match j.state with
        | .queued | .staged => out .carried (.cancelled .restart) none
        | .printing => out .carried (.failed .restart) none
        | .delivering | .inDoubt => doubt (j.serial.getD 0)
        | .feeding => ∃ x, doubt x ∧ ∃ e ∈ t.exceptions, e.tag = some j.tag ∧ e.serial = x ∧ e.disposition = .inDoubt) ∧
      (∀ k, (s.stock.get k).spoiled ≤ 999999 → t.stock.get k = { s.stock.get k with
        spoiled := min ((s.stock.get k).spoiled + s.jobs.countP fun j => j.state = .printing && j.stock = k) 999999 }) ∧
      (∀ m, (t.mag m).committed = 0 ∧ (t.mag m).counter = (s.mag m).counter ∧
        (t.mag m).pack = (s.mag m).pack.map (fun q => { q with next := q.next + s.jobs.countP (·.feedsFrom m) }) ∧
        (t.mag m).notSighted = (s.mag m).notSighted ∧ (t.mag m).sightDue = (s.mag m).sightDue ∧
        (t.mag m).low = (if 0 < s.jobs.countP (·.feedsFrom m) then
          decide ((t.mag m).remaining ≤ (s.stock.get m.stock).threshold) else (s.mag m).low) ∧
        (t.mag m).state =
          if (s.mag m).state = .active ∨ (s.mag m).state = .pending then .held .restart else (s.mag m).state) ∧
      (let left (w : Window) : ShiftRec := { s.shift w with active := t.activeJobs w }
       let ends (w : Window) : Bool := (left w).state = .closing && (left w).active = 0
       let result (w : Window) : CashUp := cashUpOf w (left w) s.tolerance
       let shown (w : Window) (st : ShiftState) (x : Option Overall) : Prop :=
        t.NoticeOut w .shift (.shift ⟨w, (left w).number, st, 0, (left w).ended, (left w).forced, x⟩)
       (∀ w, ends w = false → t.shift w = left w) ∧
       (∀ w, ends w = true → (left w).ended = false →
        t.shift w = { left w with state := .declaring } ∧ shown w .declaring none) ∧
       ∃ filed waiting, filed ++ waiting = allWindows.filter (fun w => ends w && (left w).ended) ∧
        t.cashUps = s.cashUps ++ filed.map result ∧ t.waitOrder = s.waitOrder ++ waiting ∧
        (∀ before w after, filed = before ++ w :: after →
          s.waitOrder = [] ∧ roomFor (s.cashUps ++ before.map result) (result w)) ∧
        (∀ w, waiting.head? = some w → s.waitOrder = [] → ¬roomFor t.cashUps (result w)) ∧
        (∀ w ∈ filed, t.shift w = { left w with state := .closed, heldRecord := none } ∧
          shown w .closed (some (result w).overall)) ∧
        ∀ w ∈ waiting, t.shift w = { left w with state := .listWait, heldRecord := some (result w) } ∧
          shown w .listWait (some (result w).overall)) ∧
      (∃ kept lost, s.faults.Keeps (s.faults.records.map (·.closed)) kept lost ∧
        t.faults = ⟨kept ++ [⟨s.faults.nextNumber, .restart, none, none, none, none, none, none, some i.cause, s.clock, .opened,
          false, 0, []⟩], s.faults.lead, lost, s.faults.nextNumber + 1⟩) ∧
      (∀ r ∈ t.faults.records, r.state ≠ .capturing) ∧
      (t.link .office).order = (s.link .office).order ++
        (if i.cause = .office then [⟨.start, .accepted 140 (.started true s.clock)⟩] else []) ∧
      s.SameOutside ([.power, .standby, .jobs, .exceptions, .stock .ticket, .stock .coupon, .faults, .waitOrder, .cashUps,
        .link .office] ++ allMags.map .mag ++ allWindows.flatMap fun w => [.shift w, .notices w, .link (.window w)]) t

/-- SELECT replaces the cursor's selection, position and mode, or is refused BAD_VALUE; READ gives the record at the position,
moves a SEQUENTIAL cursor on, and clears the overrun mark only by a SEQUENTIAL read of the first record of FAULT_LOG (R136,
R186, R187). -/
def Obligations.CursorSelectsAndReads : Prop :=
  ∀ (list param index mode : Byte) (s : State), s.Listens .office →
    (match cursorListOf list param, cursorModeOf mode with
    | some l, some m =>
      if index.toNat = 0 ∨ 64 < index.toNat then s.Refuses (.select list param index mode) .office 16 .badValue
      else ∃ t, exec (.select list param index mode) s = .next t ∧
        s.Replied t .office (.accepted 144 (.selected l index.toNat m (s.cursorRecords l).length)) ∧
        t.cursor = ⟨some l, index.toNat, m⟩ ∧ s.SameOutside (.cursor :: replyParts .office) t
    | _, _ => s.Refuses (.select list param index mode) .office 16 .badValue) ∧
    match s.cursor.selection with
    | none => s.Refuses .read .office 17 .wrongState
    | some l =>
      match (s.cursorRecords l)[s.cursor.position - 1]? with
      | none =>
        ∃ t, exec .read s = .next t ∧ s.Replied t .office (.accepted 145 (.readEnd l s.cursor.position)) ∧
          s.SameOutside (replyParts .office) t
      | some r =>
        ∃ t, exec .read s = .next t ∧ s.Replied t .office (.accepted 145 (.record l s.cursor.position r)) ∧
          t.cursor = { s.cursor with
            position := s.cursor.position + (if s.cursor.mode = .sequential then 1 else 0) } ∧
          t.faults = { s.faults with
            overrun := s.faults.overrun &&
              !decide (l = .faultLog ∧ s.cursor.position = 1 ∧ s.cursor.mode = .sequential) } ∧
          s.SameOutside (.cursor :: .faults :: replyParts .office) t

/-! ### Discount pages and clamped settings -/

/-- WRITE DISCOUNT replaces one entry of the inactive page and no other; a bad field, entry 0 and the active page are refused
(R3). The restricted mark's code is judged with the other codes (notes/assumptions 11). -/
def Obligations.DiscountWritten : Prop :=
  ∀ (page entry : Byte) (rate : Half) (mode : Byte) (minimum : Three) (restricted : Byte) (s : State),
    s.Listens .office →
    let c : Instr := .writeDiscount page entry rate mode minimum restricted
    match pageOf page, roundingOf mode, markOf restricted with
    | some g, some m, some x =>
      if 31 < entry.toNat ∨ entry.toNat = 0 ∨ 10000 < rate.toNat ∨ 65535 < minimum.toNat then
        s.Refuses c .office 20 .badValue
      else if g = s.fare.active then s.Refuses c .office 20 .pageActive
      else ∃ t, exec c s = .next t ∧
        s.Replied t .office (.accepted 148 (.discount g entry.toNat ⟨rate.toNat, m, minimum.toNat, x⟩)) ∧
        t.fare.entry g entry.toNat = ⟨rate.toNat, m, minimum.toNat, x⟩ ∧
        (∀ h d, ¬(h = g ∧ d = entry.toNat) → t.fare.entry h d = s.fare.entry h d) ∧
        t.fare.active = s.fare.active ∧ s.SameOutside (.fare :: replyParts .office) t
    | _, _, _ => s.Refuses c .office 20 .badValue

/-- SWITCH PAGE makes the other page active at once, gives its number, and changes no job; a second one brings the first page
back (R4). -/
def Obligations.PageSwitched : Prop :=
  ∀ s : State, s.Listens .office →
    ∃ t g, exec .switchPage s = .next t ∧ g ≠ s.fare.active ∧ s.Replied t .office (.accepted 149 (.page g)) ∧
      t.fare = { s.fare with active := g } ∧ s.SameOutside (.fare :: replyParts .office) t ∧
      (t.Listens .office → ∃ u, exec .switchPage t = .next u ∧ u.fare = s.fare)

/-- The settings that are clamped to their ranges: the void period, the capture lead, the single-ticket limit and the rows of
the tolerance table, whose fields not carried stay (R124, R140, R149, R169). That a bad code is judged before an empty request is
the model's choice (notes/assumptions 11). -/
def Obligations.SettingsClamped : Prop :=
  ∀ (v window tender req : Byte) (limit : Three) (low high : Four) (s : State), s.Listens .office →
    (∃ t, exec (.setVoidPeriod v) s = .next t ∧ t.voidPeriod = min v.toNat 60 ∧
      s.Replied t .office (.accepted 155 (.value (min v.toNat 60))) ∧ s.SameOutside (.voidPeriod :: replyParts .office) t) ∧
    (∃ t, exec (.setLead v) s = .next t ∧ t.faults = { s.faults with lead := min v.toNat 7 } ∧
      s.Replied t .office (.accepted 172 (.value (min v.toNat 7))) ∧ s.SameOutside (.faults :: replyParts .office) t) ∧
    (match windowOf window with
    | none => s.Refuses (.setLimit window limit) .office 52 .badValue
    | some w =>
      ∃ t, exec (.setLimit window limit) s = .next t ∧
        (t.window w).profile = { (s.window w).profile with limit := min limit.toNat 9999999 } ∧
        s.Replied t .office (.accepted 180 (.limit (min limit.toNat 9999999))) ∧
        s.SameOutside (.profile w :: replyParts .office) t) ∧
    match tenderOf tender, requiredOf req with
    | some k, some q =>
      if low = 0x80000000 ∧ high = 0x80000000 ∧ q = none then s.Refuses (.setTolerance tender low high req) .office 58 .badForm
      else ∃ t, exec (.setTolerance tender low high req) s = .next t ∧
        (t.tolerance.get k).low =
          (if low = 0x80000000 then (s.tolerance.get k).low else max (-99999) (min 0 low.toInt)) ∧
        (t.tolerance.get k).high =
          (if high = 0x80000000 then (s.tolerance.get k).high else max 0 (min 99999 high.toInt)) ∧
        (t.tolerance.get k).required = q.getD (s.tolerance.get k).required ∧
        (∀ k', k' ≠ k → t.tolerance.get k' = s.tolerance.get k') ∧
        s.Replied t .office (.accepted 186 (.tolerance (t.tolerance.get k))) ∧
        s.SameOutside (.tolerance :: replyParts .office) t
    | _, _ => s.Refuses (.setTolerance tender low high req) .office 58 .badValue

/-! ### Flushing and resolving -/

/-- FLUSH WINDOW cancels the QUEUED and STAGED jobs of a window and no other, each with its carried notice, and gives their
number; its shift counts so many less and, when it was CLOSING and has no more, is DECLARING or computed (R32, R35, R41,
R155). -/
def Obligations.WindowFlushed : Prop :=
  ∀ (b : Byte) (s : State), s.Listens .office → s.TableLawful →
    match windowOf b with
    | none => s.Refuses (.flushWindow b) .office 24 .badValue
    | some w =>
      let goes (j : Job) : Bool := j.tag.window = w && (j.state = .queued || j.state = .staged)
      ∃ t, exec (.flushWindow b) s = .next t ∧ s.Replied t .office (.accepted 152 (.count (s.jobs.countP goes))) ∧
        t.jobs.map (·.tag) = (s.jobs.filter (!goes ·)).map (·.tag) ∧
        (∀ j ∈ s.jobs, goes j = true → t.NoticeOut w .carried (.job ⟨.cancelled .flush, j.tag, j.stock, j.total, none⟩)) ∧
        s.JobsLeft t w (s.shift w) (s.jobs.countP goes) ∧
        s.SameOutside (dispatchParts ++ .jobs :: shiftParts w ++ replyParts (.window w) ++ replyParts .office) t

/-- RESOLVE settles an IN_DOUBT job: ISSUED removes its entry, moves the tallies and puts it on the recent issue list of its
shift, where the oldest of four goes, with the RESOLVED notice of that entry; SPOILED makes its entry SPOILED and raises the
spoiled count, with a carried RESOLVED notice. RESOLVE WINDOW resolves every IN_DOUBT job of a window as SPOILED, each with its
own notice. The shift counts the jobs less and, when it was CLOSING and has no more, is DECLARING or computed (R32, R36, R40,
R65, R120 to R123, R155). -/
def Obligations.DoubtsResolved : Prop :=
  ∀ (b res : Byte) (n : JobNo) (s : State), s.Listens .office → s.TableLawful →
    (match windowOf b, resolutionOf res with
    | some w, some x =>
      match s.findJob ⟨w, n⟩ with
      | none => s.Refuses (.resolve b n res) .office 25 .unknownJob
      | some j =>
        if j.state ≠ .inDoubt then s.Refuses (.resolve b n res) .office 25 .wrongState
        else ∃ t, exec (.resolve b n res) s = .next t ∧
          s.Replied t .office (.accepted 153 (.resolved ⟨w, n⟩ j.serial x j.total)) ∧
          t.jobs.map (·.tag) = (s.jobs.map (·.tag)).filter (· ≠ ⟨w, n⟩) ∧
          (match x with
          | .issued =>
            t.exceptions = s.exceptions.eraseP (·.doubtOf j) ∧
              s.JobsLeft t w ((s.shift w).issued j) 1 ∧
              (let notice : Notice := .job ⟨.resolved .issued, j.tag, j.stock, j.total, j.serial⟩
               (j.shift = (s.shift w).number → t.NoticeOut w (.recent n) notice ∧
                 s.JoinedRecent t w ⟨j.tag, j.stock, j.serial.getD 0, j.total, j.tender, s.clock, false⟩) ∧
               (j.shift ≠ (s.shift w).number → t.NoticeOut w .carried notice ∧
                 (t.window w).recent = (s.window w).recent)) ∧
              s.SameOutside (dispatchParts ++ .exceptions :: leaveParts w ++ replyParts (.window w) ++ replyParts .office) t
          | .spoiled =>
            t.exceptions = s.exceptions.map (fun e => if e.doubtOf j then
              { e with disposition := .spoiled, reason := .office } else e) ∧
              t.stock.get j.stock =
                { s.stock.get j.stock with spoiled := min ((s.stock.get j.stock).spoiled + 1) 999999 } ∧
              s.JobsLeft t w (s.shift w) 1 ∧
              t.NoticeOut w .carried (.job ⟨.resolved .spoiled, j.tag, j.stock, j.total, j.serial⟩) ∧
              s.SameOutside (.exceptions :: .stock j.stock :: .jobs :: shiftParts w ++ replyParts (.window w) ++
                replyParts .office) t)
    | _, _ => s.Refuses (.resolve b n res) .office 25 .badValue) ∧
    match windowOf b with
    | none => s.Refuses (.resolveWindow b) .office 26 .badValue
    | some w =>
      let goes (j : Job) : Bool := j.tag.window = w && j.state = .inDoubt
      ∃ t, exec (.resolveWindow b) s = .next t ∧ s.Replied t .office (.accepted 154 (.count (s.jobs.countP goes))) ∧
        t.jobs = s.jobs.filter (!goes ·) ∧
        (∀ j ∈ s.jobs, goes j = true →
          t.NoticeOut w .carried (.job ⟨.resolved .spoiled, j.tag, j.stock, j.total, j.serial⟩)) ∧
        t.exceptions = s.exceptions.map (fun e => if ∃ j ∈ s.jobs, goes j = true ∧ e.doubtOf j = true then
          { e with disposition := .spoiled, reason := .office } else e) ∧
        (∀ k, (s.stock.get k).spoiled ≤ 999999 → (t.stock.get k).spoiled =
          min ((s.stock.get k).spoiled + s.jobs.countP fun j => goes j && j.stock = k) 999999) ∧
        s.JobsLeft t w (s.shift w) (s.jobs.countP goes) ∧
        s.SameOutside (.exceptions :: .stock .ticket :: .stock .coupon :: .jobs :: shiftParts w ++
          replyParts (.window w) ++ replyParts .office) t

/-! ### Stock -/

/-- LOAD PACK by its checks in their order; accepted, the magazine is PENDING with the pack not yet sighted, the pending
reload value becomes the reload value, and the counter and the low mark are set from it (R48, R61, R62). -/
def Obligations.PackLoaded : Prop :=
  ∀ (b : Byte) (first : Three) (count : Half) (s : State), s.Listens .office →
    let c : Instr := .loadPack b first count
    let last := first.toNat + count.toNat - 1
    match magOf b with
    | none => s.Refuses c .office 30 .badValue
    | some m =>
      (999999 < first.toNat ∨ count.toNat = 0 ∨ 500 < count.toNat ∨ 999999 < last → s.Refuses c .office 30 .badValue) ∧
      (first.toNat ≤ 999999 → 1 ≤ count.toNat → count.toNat ≤ 500 → last ≤ 999999 →
        let shares := ∃ x k, x ≠ m ∧ x.stock = m.stock ∧ (s.mag x).pack = some k ∧ first.toNat ≤ k.last ∧ k.first ≤ last
        let reload := (s.stock.get m.stock).pendingReload.getD (s.stock.get m.stock).reload
        ((s.mag m).state ≠ .empty → s.Refuses c .office 30 .inUse) ∧
        ((s.mag m).state = .empty → shares → s.Refuses c .office 30 .overlap) ∧
        ((s.mag m).state = .empty → ¬shares →
          ∃ t, exec c s = .next t ∧ s.Replied t .office (.accepted 158 (.magazine m (t.mag m))) ∧
            t.mag m = ⟨.pending, true, some ⟨first.toNat, last, first.toNat⟩, 0, reload, false,
              decide (count.toNat ≤ (s.stock.get m.stock).threshold)⟩ ∧
            t.stock.get m.stock = { s.stock.get m.stock with reload := reload, pendingReload := none } ∧
            s.SameOutside (.mag m :: .stock m.stock :: replyParts .office) t))

/-- UNLOAD of a magazine with a pack: refused IN_USE while the pack is in use; accepted, the pack's entries leave the exception
list, the magazine is EMPTY with its counter as it stands, and the reply is the pack account (R49). -/
def Obligations.PackUnloaded : Prop :=
  ∀ (b : Byte) (s : State), s.Listens .office →
    match magOf b with
    | none => s.Refuses (.unload b) .office 31 .badValue
    | some m =>
      ((s.mag m).state = .empty → s.Refuses (.unload b) .office 31 .wrongState) ∧
      ∀ k, (s.mag m).state ≠ .empty → (s.mag m).pack = some k →
        let inPack (e : ExcEntry) : Bool := e.stock = m.stock && (k.first ≤ e.serial && e.serial ≤ k.last)
        let inUse := 0 < (s.mag m).committed ∨
          (∃ j ∈ s.jobs, (j.state = .printing ∨ j.state = .delivering) ∧ j.stock = m.stock ∧
            ∃ x, j.serial = some x ∧ k.first ≤ x ∧ x ≤ k.last) ∨
          ∃ e ∈ s.exceptions, e.disposition = .inDoubt ∧ inPack e = true
        (inUse → s.Refuses (.unload b) .office 31 .inUse) ∧
        (¬inUse →
          let spoiled := s.exceptions.countP fun e => inPack e && e.disposition = .spoiled
          let voided := s.exceptions.countP fun e => inPack e && e.disposition = .voided
          ∃ t, exec (.unload b) s = .next t ∧
            s.Replied t .office (.accepted 159 (.account ⟨m, (s.mag m).state, k, k.next - k.first, spoiled, voided,
              k.next - k.first - spoiled - voided, k.last + 1 - k.next, (s.mag m).notSighted⟩)) ∧
            t.exceptions = s.exceptions.filter (!inPack ·) ∧
            t.mag m = ⟨.empty, false, none, (s.mag m).committed, (s.mag m).counter, false, false⟩ ∧
            s.SameOutside (.exceptions :: dispatchParts ++ replyParts .office) t)

/-- HOLD makes an ACTIVE or PENDING magazine HELD (OFFICE), its mark kept; REINSTATE makes a HELD one ACTIVE, or EXHAUSTED with
nothing remaining, without a sighting; in every other state they are refused (R50, R51). -/
def Obligations.MagazineHeldAndReinstated : Prop :=
  ∀ (b : Byte) (s : State), s.Listens .office →
    match magOf b with
    | none => s.Refuses (.hold b) .office 32 .badValue ∧ s.Refuses (.reinstate b) .office 33 .badValue
    | some m =>
      (if (s.mag m).state = .active ∨ (s.mag m).state = .pending then
        ∃ t, exec (.hold b) s = .next t ∧ s.Replied t .office (.accepted 160 (.magazine m (t.mag m))) ∧
          (t.mag m).state = .held .office ∧ (t.mag m).notSighted = (s.mag m).notSighted ∧
          (t.mag m).pack = (s.mag m).pack ∧ (t.mag m).counter = (s.mag m).counter ∧
          s.SameOutside (dispatchParts ++ replyParts .office) t
      else s.Refuses (.hold b) .office 32 .wrongState) ∧
      ((∃ r, (s.mag m).state = .held r) →
        ∃ t, exec (.reinstate b) s = .next t ∧ s.Replied t .office (.accepted 161 (.magazine m (t.mag m))) ∧
          (t.mag m).state = (if 0 < (s.mag m).remaining then .active else .exhausted) ∧ (t.mag m).notSighted = false ∧
          (t.mag m).pack = (s.mag m).pack ∧ (t.mag m).counter = (s.mag m).counter ∧
          s.SameOutside (dispatchParts ++ replyParts .office) t) ∧
      ((∀ r, (s.mag m).state ≠ .held r) → s.Refuses (.reinstate b) .office 33 .wrongState)

/-- SET STOCK: a reload value is latched as pending while a magazine of the type counts, and else taken at once with the
counters of the non-EMPTY magazines loaded; a threshold re-judges every low mark of the type; both are clamped (R61, R62). That
a bad code is judged before an empty request is the model's choice (notes/assumptions 11). -/
def Obligations.StockSettingsSet : Prop :=
  ∀ (b : Byte) (reload threshold : Half) (s : State), s.Listens .office →
    let c : Instr := .setStock b reload threshold
    match stockOf b with
    | none => s.Refuses c .office 34 .badValue
    | some k =>
      if reload = 0xFFFF ∧ threshold = 0xFFFF then s.Refuses c .office 34 .badForm
      else
        let old := s.stock.get k
        let counts := ∃ p, (s.mag ⟨p, k⟩).state = .active ∧ 0 < old.reload
        ∃ t, exec c s = .next t ∧ s.SameOutside (.stock k :: allPrinters.map (fun p => .mag ⟨p, k⟩) ++ replyParts .office) t ∧
          (reload = 0xFFFF → (t.stock.get k).reload = old.reload ∧ (t.stock.get k).pendingReload = old.pendingReload) ∧
          (reload ≠ 0xFFFF → counts → (t.stock.get k).reload = old.reload ∧
            (t.stock.get k).pendingReload = some (min reload.toNat 2047)) ∧
          (reload ≠ 0xFFFF → ¬counts → (t.stock.get k).reload = min reload.toNat 2047 ∧
            (t.stock.get k).pendingReload = none) ∧
          (t.stock.get k).threshold = (if threshold = 0xFFFF then old.threshold else min threshold.toNat 500) ∧
          (∀ p,
            let m := s.mag ⟨p, k⟩
            (reload = 0xFFFF ∨ counts ∨ m.state = .empty → (t.mag ⟨p, k⟩).counter = m.counter) ∧
            (reload ≠ 0xFFFF → ¬counts → m.state ≠ .empty → (t.mag ⟨p, k⟩).counter = min reload.toNat 2047) ∧
            (t.mag ⟨p, k⟩).low =
              (if threshold = 0xFFFF then m.low else m.pack.isSome && decide (m.remaining ≤ min threshold.toNat 500)) ∧
            { t.mag ⟨p, k⟩ with counter := m.counter, low := m.low } = m) ∧
          s.Replied t .office (.accepted 162 (.stockSet (t.stock.get k).reload (t.stock.get k).pendingReload
            (t.stock.get k).threshold))

/-- The counter of a counting magazine that reaches 0 sets the sight-due mark, takes the pending reload value and reloads
(R60); the pacing wait of a staged job that runs out with the other conditions met gives the print permission: the job is
FEEDING in the current slot, and the PRINT is pending with the serial and the sight request of its magazine (R56, R76, R77,
R79). That the two commands bring their own moment is the model's choice (notes/assumptions 4). -/
def Obligations.CounterAndPacingExpiry : Prop :=
  ∀ (m : MagId) (p : Printer) (s : State), s.power = .running →
    ((s.mag m).state = .active → 0 < (s.stock.get m.stock).reload →
      ∃ t, exec (.auditCounterZero m) s = .next t ∧
        t.mag m = { s.mag m with
          sightDue := true
          counter := (s.stock.get m.stock).pendingReload.getD (s.stock.get m.stock).reload } ∧
        t.stock.get m.stock = { s.stock.get m.stock with
          reload := (s.stock.get m.stock).pendingReload.getD (s.stock.get m.stock).reload, pendingReload := none } ∧
        s.SameOutside [.mag m, .stock m.stock] t) ∧
    ∀ j ∈ s.jobs, s.TableLawful → j.state = .staged → j.printer = some p → (s.printer p).staged = some j.tag →
      (s.printer p).state = .ready → (s.printer p).current = none → (s.lineRec p).pendingCmd = none →
      (s.mag ⟨p, j.stock⟩).state = .active → 1 ≤ s.free →
      ∃ t, exec (.pacingWaitExpiry p) s = .next t ∧
        t.now = (match (s.printer p).lastOutcome with
          | none => s.now
          | some o => max s.now (o + 10 * ((s.printer p).base * (s.printer p).multiplier +
              match (s.printer p).lastStock with
              | some k => if k = j.stock then 0 else (s.printer p).changeover
              | none => 0))) ∧
        { j with state := .feeding } ∈ t.jobs ∧
        (t.printer p).current = some ⟨j.tag, (s.mag ⟨p, j.stock⟩).next, (s.mag ⟨p, j.stock⟩).sightDue⟩ ∧
        (t.lineRec p).pendingCmd = some (.print ⟨j.tag, j.stock, (s.mag ⟨p, j.stock⟩).sightDue,
          (s.mag ⟨p, j.stock⟩).next, j.total, j.lines, j.route, j.validity, j.seat⟩) ∧
        s.SameOutside (.time :: dispatchParts) t

/-! ### Printers -/

/-- SET PRINTER stores the settings carried, clamped, and leaves the others; SET ROUTE replaces one window's entry of the
routing table (R71, R72). That a bad code is judged before an empty request is the model's choice (notes/assumptions 11). -/
def Obligations.PrinterAndRouteSet : Prop :=
  ∀ (b base multiplier changeover w home alternate : Byte) (s : State), s.Listens .office →
    (match printerOf b with
    | none => s.Refuses (.setPrinter b base multiplier changeover) .office 38 .badValue
    | some p =>
      if base = 0xFF ∧ multiplier = 0xFF ∧ changeover = 0xFF then
        s.Refuses (.setPrinter b base multiplier changeover) .office 38 .badForm
      else ∃ t x y z, exec (.setPrinter b base multiplier changeover) s = .next t ∧
        x = (if base = 0xFF then (s.printer p).base else min base.toNat 7) ∧
        y = (if multiplier = 0xFF then (s.printer p).multiplier else max 1 (min multiplier.toNat 2)) ∧
        z = (if changeover = 0xFF then (s.printer p).changeover else min changeover.toNat 15) ∧
        (t.printer p).base = x ∧ (t.printer p).multiplier = y ∧ (t.printer p).changeover = z ∧
        s.Replied t .office (.accepted 166 (.pacing x y z)) ∧ s.SameOutside (dispatchParts ++ replyParts .office) t) ∧
    match windowOf w, printerOf home, printerOf alternate with
    | some w', some h, some a =>
      if a = h then s.Refuses (.setRoute w home alternate) .office 39 .badValue
      else ∃ t, exec (.setRoute w home alternate) s = .next t ∧ t.routes = s.routes.set w' ⟨h, some a⟩ ∧
        s.Replied t .office (.accepted 167 (.route ⟨h, some a⟩)) ∧
        s.SameOutside (.routes :: dispatchParts ++ replyParts .office) t
    | some w', some h, none =>
      if alternate = 0xFF then
        ∃ t, exec (.setRoute w home alternate) s = .next t ∧ t.routes = s.routes.set w' ⟨h, none⟩ ∧
          s.Replied t .office (.accepted 167 (.route ⟨h, none⟩)) ∧
          s.SameOutside (.routes :: dispatchParts ++ replyParts .office) t
      else s.Refuses (.setRoute w home alternate) .office 39 .badValue
    | _, _, _ => s.Refuses (.setRoute w home alternate) .office 39 .badValue

/-- WITHDRAW takes a printer out of use: the fault kind and return mark go, its capture closes short, and its staged job returns
to the queue, which is a dispatch opportunity. FLUSH PRINTER returns the staged job, as such an opportunity too, and leaves the
current one (R75, R81, R83, R139). -/
def Obligations.PrinterWithdrawnOrFlushed : Prop :=
  ∀ (b : Byte) (s : State), s.Listens .office →
    match printerOf b with
    | none => s.Refuses (.withdraw b) .office 40 .badValue ∧ s.Refuses (.flushPrinter b) .office 42 .badValue
    | some p =>
      let returned (u t : State) : Prop :=
        (∀ q ∈ dispatchParts, ((u.returnStaged p).opportunity []).SameAt t q) ∧
          (u.TableLawful → ∀ j ∈ u.jobs, (u.printer p).staged = some j.tag → u.StagedReturned (u.returnStaged p) p j)
      (if (s.printer p).state = .withdrawn then s.Refuses (.withdraw b) .office 40 .wrongState
      else ∃ t, exec (.withdraw b) s = .next t ∧ s.Replied t .office (.accepted 168 (.printerRecord p (t.printer p))) ∧
        t.printer p = { s.printer p with state := .withdrawn, returnMark := false, staged := none } ∧
        t.faults = { s.faults with records := s.faults.records.map (·.closedOn p) } ∧
        ((s.printer p).staged = none → s.SameOutside ([.faults, .printer p] ++ replyParts .office) t) ∧
        ((s.printer p).staged ≠ none →
          returned (s.modPrinter p fun r => { r with state := .withdrawn, returnMark := false }) t) ∧
        s.SameOutside (.faults :: dispatchParts ++ replyParts .office) t) ∧
      ∃ t, exec (.flushPrinter b) s = .next t ∧ s.Replied t .office (.accepted 170 (.flushed (s.printer p).staged)) ∧
        (t.printer p).state = (s.printer p).state ∧
        (∀ c, (s.printer p).current = some c → (t.printer p).current = some c) ∧
        ((s.printer p).staged = none → s.SameOutside (replyParts .office) t) ∧
        ((s.printer p).staged ≠ none → returned s t) ∧
        s.SameOutside (dispatchParts ++ replyParts .office) t

/-- RETURN for a WITHDRAWN or FAULTED printer, and CLEAR PRINTER for a FAULTED printer of the window's routing, set the return
mark and give the line a CLEAR unless a command is pending; a mark already present asks for no second CLEAR; every other
case is refused in the order of the rule (R82, R84, R94). -/
def Obligations.ReturnMarkGiven : Prop :=
  ∀ (b : Byte) (w : Window) (s : State),
    let given (p : Printer) (t : State) : Prop :=
      t.printer p = { s.printer p with returnMark := true } ∧
        t.lineRec p = { s.lineRec p with pendingCmd :=
          if (s.printer p).returnMark then (s.lineRec p).pendingCmd else some ((s.lineRec p).pendingCmd.getD .clear) }
    (s.Listens .office →
      match printerOf b with
      | none => s.Refuses (.returnPrinter b) .office 41 .badValue
      | some p =>
        ((s.printer p).state = .ready ∨ (s.printer p).state = .offline →
          s.Refuses (.returnPrinter b) .office 41 .wrongState) ∧
        ((s.printer p).state ≠ .ready → (s.printer p).state ≠ .offline →
          ∃ t, exec (.returnPrinter b) s = .next t ∧ given p t ∧
            s.Replied t .office (.accepted 169 (.printerRecord p (t.printer p))) ∧
            s.SameOutside (.printer p :: .line p :: replyParts .office) t)) ∧
    (s.Listens (.window w) →
      match printerOf b with
      | none => s.Refuses (.clearPrinter w b) (.window w) 5 .badValue
      | some p =>
        if (s.window w).profile.clearPrinter = false then s.Refuses (.clearPrinter w b) (.window w) 5 .notPermitted
        else if ¬((s.routes.get w).home = p ∨ (s.routes.get w).alternate = some p) then
          s.Refuses (.clearPrinter w b) (.window w) 5 .notPermitted
        else match (s.printer p).state with
          | .faulted k =>
            ∃ t, exec (.clearPrinter w b) s = .next t ∧ given p t ∧
              s.Replied t (.window w) (.accepted 133 (.printerFault (.faulted k))) ∧
              s.SameOutside (.printer p :: .line p :: replyParts (.window w)) t
          | .offline | .ready | .withdrawn => s.Refuses (.clearPrinter w b) (.window w) 5 .wrongState)

/-! ### The fault log -/

/-- ACKNOWLEDGE in SINGLE mode reaches the record of the number, and in UP_TO mode every record from the head up to the first of
the number: an OPEN one becomes ACKNOWLEDGED, a CAPTURING one takes the acknowledge-pending mark, no record is removed (R141).
Two records of the log never share a number (R132). -/
def Obligations.RecordsAcknowledged : Prop :=
  ∀ (b : Byte) (n : RecordNo) (s : State), s.Listens .office →
    let ack (r : FaultRecord) : FaultRecord :=
      match r.state with
      | .opened => { r with state := .acknowledged }
      | .capturing => { r with ackPending := true }
      | .acknowledged => r
    let reached (k : Nat) : List FaultRecord := s.faults.records.take (k + 1)
    (b ≠ 1 → b ≠ 2 → s.Refuses (.acknowledge b n) .office 45 .badValue) ∧
    (b = 1 ∨ b = 2 → (∀ r ∈ s.faults.records, r.number ≠ n) → s.Refuses (.acknowledge b n) .office 45 .unknownJob) ∧
    ∀ (k : Nat) (r : FaultRecord), s.faults.records[k]? = some r → r.number = n →
      (∀ i x, s.faults.records[i]? = some x → x.number = n → i = k) →
      (∃ t, exec (.acknowledge 1 n) s = .next t ∧ t.faults = { s.faults with records := s.faults.records.set k (ack r) } ∧
        s.Replied t .office (.accepted 173 (.acknowledged n (ack r).state (ack r).ackPending)) ∧
        s.SameOutside (.faults :: replyParts .office) t) ∧
      ∃ t, exec (.acknowledge 2 n) s = .next t ∧
        t.faults = { s.faults with records := (reached k).map ack ++ s.faults.records.drop (k + 1) } ∧
        s.Replied t .office (.accepted 173 (.acknowledgedUpTo ((reached k).countP (·.state = .opened))
          ((reached k).countP fun r => r.state = .capturing ∧ r.ackPending = false))) ∧
        s.SameOutside (.faults :: replyParts .office) t

/-! ### Window profiles, FORCE CLOSE and snapshots -/

/-- CLEAR, SET and TOGGLE FLAGS act on the named flags alone and give the whole set; TEST FLAGS changes nothing and answers ALL,
NONE or SOME; a bad window or bit is refused BAD_VALUE and an empty set BAD_FORM (R147, R148). That a bad window is judged
before an empty set is the model's choice (notes/assumptions 11). -/
def Obligations.FlagsUpdatedAndTested : Prop :=
  ∀ (b : Byte) (f : Half) (s : State), s.Listens .office →
    match windowOf b with
    | none => s.Refuses (.clearFlags b f) .office 48 .badValue ∧ s.Refuses (.setFlags b f) .office 49 .badValue ∧
        s.Refuses (.toggleFlags b f) .office 50 .badValue ∧ s.Refuses (.testFlags b f) .office 51 .badValue
    | some w =>
      let code : Code := if 512 ≤ f.toNat then .badValue else .badForm
      let old := (s.window w).profile.flags
      (512 ≤ f.toNat ∨ f = 0 → s.Refuses (.clearFlags b f) .office 48 code ∧ s.Refuses (.setFlags b f) .office 49 code ∧
        s.Refuses (.toggleFlags b f) .office 50 code ∧ s.Refuses (.testFlags b f) .office 51 code) ∧
      (f.toNat < 512 → f ≠ 0 →
        (∀ (c : Instr) (kind : Byte) (op : Bool → Bool → Bool),
          (c = .clearFlags b f ∧ kind = 176 ∧ op = fun x y => x && !y) ∨
            (c = .setFlags b f ∧ kind = 177 ∧ op = fun x y => x || y) ∨
            (c = .toggleFlags b f ∧ kind = 178 ∧ op = fun x y => xor x y) →
          ∃ t, exec c s = .next t ∧ s.Replied t .office (.accepted kind (.flags (t.window w).profile.flags)) ∧
            (∀ i, i < 9 → (t.window w).profile.flags.getLsbD i = op (old.getLsbD i) (f.getLsbD i)) ∧
            (t.window w).profile.limit = (s.window w).profile.limit ∧
            s.SameOutside (.profile w :: dispatchParts ++ replyParts .office) t) ∧
        ∃ t x, exec (.testFlags b f) s = .next t ∧ s.Replied t .office (.accepted 179 (.tested x old)) ∧
          (x = .all ↔ ∀ i, i < 9 → f.getLsbD i = true → old.getLsbD i = true) ∧
          (x = .none ↔ ∀ i, i < 9 → f.getLsbD i = true → old.getLsbD i = false) ∧
          s.SameOutside (replyParts .office) t)

/-- FORCE CLOSE: refused in CLOSED and LIST_WAIT; with both marks present it changes nothing; else it ends the declaration,
discarding what a DECLARE END had not declared, sets both marks, and leaves the shift CLOSING with a notice while jobs remain,
or computes it (R154, R156, R174). -/
def Obligations.ShiftForcedClosed : Prop :=
  ∀ (b : Byte) (s : State), s.Listens .office →
    match windowOf b with
    | none => s.Refuses (.forceClose b) .office 53 .badValue
    | some w =>
      let old := s.shift w
      let h : ShiftRec := { old with
        closeStamp := if old.state = .opened then some s.clock else old.closeStamp
        staged := if old.ended then old.staged else ⟨none, none, none, none⟩
        declared := if old.ended then old.declared else ⟨none, none, none, none⟩
        ended := true, forced := true }
      let r := cashUpOf w h s.tolerance
      if old.state = .closed ∨ old.state = .listWait then s.Refuses (.forceClose b) .office 53 .shiftState
      else if old.ended = true ∧ old.forced = true then
        ∃ t, exec (.forceClose b) s = .next t ∧ s.Replied t .office (.accepted 181 (.shift old.state old.active)) ∧
          s.SameOutside (replyParts .office) t
      else ∃ t st, exec (.forceClose b) s = .next t ∧ s.Replied t .office (.accepted 181 (.shift st old.active)) ∧
        (if 0 < old.active then
          st = .closing ∧ t.shift w = { h with state := .closing } ∧ t.cashUps = s.cashUps ∧ t.waitOrder = s.waitOrder ∧
            t.NoticeOut w .shift (.shift ⟨w, h.number, st, h.active, true, true, none⟩)
        else
          (if s.waitOrder = [] ∧ s.cashUps.length < 12 ∧ ∀ x ∈ s.cashUps, ¬(x.window = w ∧ x.shift = h.number) then
            st = .closed ∧ t.cashUps = s.cashUps ++ [r] ∧ t.waitOrder = s.waitOrder ∧
              t.shift w = { h with state := .closed, heldRecord := none }
          else
            st = .listWait ∧ t.cashUps = s.cashUps ∧ t.waitOrder = s.waitOrder ++ [w] ∧
              t.shift w = { h with state := .listWait, heldRecord := some r }) ∧
            t.NoticeOut w .shift (.shift ⟨w, h.number, st, h.active, true, true, some r.overall⟩)) ∧
        s.SameOutside (shiftParts w ++ replyParts (.window w) ++ replyParts .office) t

/-- LATCH gives each named window without an unread snapshot one, copied from its shift record, and keeps the others; READ
LATCHED gives a snapshot whole and discards it (R161, R162). That a bad code is judged before an empty set is the model's
choice (notes/assumptions 11), as is that the reply lists the named windows by window number (notes/assumptions 16). -/
def Obligations.SnapshotsLatchedAndRead : Prop :=
  ∀ (windows part b : Byte) (s : State), s.Listens .office →
    (match windowSetOf windows, latchPartOf part with
    | some ws, some x =>
      if ws = [] then s.Refuses (.latch windows part) .office 54 .badForm
      else
        let copy (w : Window) : Snapshot :=
          let h := s.shift w
          ⟨w, h.number, s.clock, x, if x = .state then none else some (h.tallies, h.sticky),
            if x = .tallies then none else
              some ⟨h.state, h.clerk, h.float, h.openStamp, h.closeStamp, h.active, h.ended, h.forced, s.waitPosition w⟩⟩
        ∃ t, exec (.latch windows part) s = .next t ∧
          s.Replied t .office (.accepted 182 (.latched (ws.map fun w =>
            (w, if (s.window w).snapshot.isSome then .kept else .latched)))) ∧
          (∀ w, (t.window w).snapshot =
            if w ∈ ws then some ((s.window w).snapshot.getD (copy w)) else (s.window w).snapshot) ∧
          s.SameOutside (allWindows.map .snapshot ++ replyParts .office) t
    | _, _ => s.Refuses (.latch windows part) .office 54 .badValue) ∧
    match windowOf b with
    | none => s.Refuses (.readLatched b) .office 55 .badValue
    | some w =>
      match (s.window w).snapshot with
      | none => s.Refuses (.readLatched b) .office 55 .latchEmpty
      | some v =>
        ∃ t, exec (.readLatched b) s = .next t ∧ s.Replied t .office (.accepted 183 (.snapshot v)) ∧
          (t.window w).snapshot = none ∧ s.SameOutside (.snapshot w :: replyParts .office) t

/-! ### The cash-up list -/

/-- COLLECT gives the oldest uncollected record, or the named one, and sets its collected mark and nothing else (R176). A body
whose length is not that of its mode is BAD_FORM, and a bad mode is judged first: the model's choice (notes/assumptions
11). -/
def Obligations.RecordCollected : Prop :=
  ∀ (key : Byte × ShiftNo) (s : State), s.Listens .office →
    let collects (c : Instr) (found : Option CashUp) : Prop :=
      match found with
      | none => s.Refuses c .office 59 .unknownJob
      | some r =>
        ∃ t, exec c s = .next t ∧ s.Replied t .office (.accepted 187 (.cashUp { r with collected := true })) ∧
          t.cashUps = s.cashUps.map (fun x =>
            if x.window = r.window ∧ x.shift = r.shift then { x with collected := true } else x) ∧
          s.SameOutside (.cashUps :: replyParts .office) t
    collects (.collect 1 none) (s.cashUps.find? fun r => r.collected = false) ∧
    (match windowOf key.1 with
    | none => s.Refuses (.collect 2 (some key)) .office 59 .badValue
    | some w => collects (.collect 2 (some key)) (s.cashUps.find? fun r => r.window = w ∧ r.shift = key.2)) ∧
    s.Refuses (.collect 1 (some key)) .office 59 .badForm ∧ s.Refuses (.collect 2 none) .office 59 .badForm ∧
    ∀ mode k, mode ≠ 1 → mode ≠ 2 → s.Refuses (.collect mode k) .office 59 .badValue

/-- RELEASE removes a collected record and admits waiting shifts from the head of the wait order: each, its record having room
in the list as it then stands, files its held record and becomes CLOSED with its notice; the admissions stop at the first
head whose record has no room (R156, R157, R177). -/
def Obligations.RecordReleased : Prop :=
  ∀ (b : Byte) (n : ShiftNo) (s : State), s.Listens .office → s.ShiftsLawful →
    match windowOf b with
    | none => s.Refuses (.release b n) .office 60 .badValue
    | some w =>
      match s.cashUps.find? fun r => r.window = w ∧ r.shift = n with
      | none => s.Refuses (.release b n) .office 60 .unknownJob
      | some r =>
        let left := s.cashUps.filter fun x => ¬(x.window = w ∧ x.shift = n)
        let filed (vs : List Window) : List CashUp := left ++ vs.filterMap fun v => (s.shift v).heldRecord
        let room (l : List CashUp) (x : CashUp) : Prop :=
          l.length < 12 ∧ ∀ y ∈ l, ¬(y.window = x.window ∧ y.shift = x.shift)
        if r.collected = false then s.Refuses (.release b n) .office 60 .notCollected
        else ∃ t ws, exec (.release b n) s = .next t ∧
          s.Replied t .office (.accepted 188 (.released w n t.cashUps.length ws)) ∧
          s.waitOrder = ws ++ t.waitOrder ∧ t.cashUps = filed ws ∧
          (∀ before v after, ws = before ++ v :: after →
            ∃ x, (s.shift v).heldRecord = some x ∧ room (filed before) x) ∧
          (∀ v ∈ ws, t.shift v = { s.shift v with state := .closed, heldRecord := none } ∧
            t.NoticeOut v .shift (.shift ⟨v, (s.shift v).number, .closed, (s.shift v).active, (s.shift v).ended,
              (s.shift v).forced, (s.shift v).heldRecord.map (·.overall)⟩)) ∧
          (∀ v, v ∉ ws → t.shift v = s.shift v) ∧
          (∀ v, t.waitOrder.head? = some v → ∀ x, (s.shift v).heldRecord = some x → ¬room t.cashUps x) ∧
          s.SameOutside (.cashUps :: .waitOrder :: allWindows.flatMap (fun v => .shift v :: replyParts (.window v)) ++
            replyParts .office) t

/-! ### Link events -/

/-- Messages that are no request taken: an unknown kind or length is answered BAD_FORM; a bad check, a bad stop bit or a length
above 120 owes a LINE refusal, and the last discards until a gap; a message that finds two held requests owes OVERRUN; a fifth
owed refusal is dropped; a gap drops the message in progress and ends the discarding; a message during a start is answered WRONG_STATE (R180, R181, R182,
R199). -/
def Obligations.MessagesNotTaken : Prop :=
  ∀ (l : Link) (kind : Byte) (s : State),
    let owed (c : Code) : List ReplyEntry :=
      if (s.link l).countKind .owed < 4 then [⟨.owed, .refused 0 c⟩] else []
    (s.Listens l → s.Refuses (.unknownKind l kind) l kind .badForm) ∧
    (s.power ≠ .off → (s.link l).discarding = false →
      (∀ cause, ∃ t, exec (.line l cause) s = .next t ∧ (t.link l).order = (s.link l).order ++ owed .line ∧
        ((t.link l).discarding = true ↔ cause = .tooLong) ∧ s.SameOutside (replyParts l) t) ∧
      (2 ≤ (s.link l).countKind .held →
        ∃ t, exec (.overrun l) s = .next t ∧ (t.link l).order = (s.link l).order ++ owed .overrun ∧
          s.SameOutside (replyParts l) t)) ∧
    (∃ t, exec (.gapDiscard l) s = .next t ∧ t.link l = { s.link l with arriving := [], discarding := false } ∧
      s.SameOutside [.link l] t) ∧
    ∀ i, s.power = .starting i → (s.link l).discarding = false → (s.link l).countKind .held < 2 →
      s.Refuses (.requestDuringStart l kind) l kind .wrongState

/-- The transmitter: a message wholly sent leaves it free, a reply leaving the reply order; it then begins what the table of
R185 gives, as it does when the terminal asserts its ready input; a ready input that falls stops no message begun (R42, R179,
R182, R185). A notice begun takes its content then (R192), as the model reads it (notes/assumptions 7). -/
def Obligations.TransmitterArbitrates : Prop :=
  ∀ (l : Link) (s : State),
    (∀ m, (s.link l).sending = some m →
      ∃ t, exec (.transmitComplete l) s = .next t ∧ s.SameOutside (replyParts l) t ∧
        s.Arbitrated t l { s.link l with
          sending := none
          order := match m with
            | .reply _ => (s.link l).order.tail
            | .notice _ => (s.link l).order }) ∧
    (∃ t, exec (.linkReadyAsserted l) s = .next t ∧ s.SameOutside (replyParts l) t ∧
      s.Arbitrated t l { s.link l with ready := true }) ∧
    ∃ t, exec (.readyInputFalls l) s = .next t ∧ t.link l = { s.link l with ready := false } ∧ s.SameOutside [.link l] t

/-! ### The printer line -/

/-- A turn begins with the command at the rotation position: POLL when none is pending; the pending PRINT, with its trace entry,
handed to the fault log, and, at its first sending, the FEEDING limit; or the pending CLEAR, with its trace entry. The command
carries the acknowledgement, and nothing is heard yet in its reply window (R93, R95, R105 to R107, R109, R138). That a PRINT
first sent after a late FED starts no FEEDING limit, since the timing of PRINTING then runs, is the model's choice
(notes/assumptions 17). -/
def Obligations.TurnBegins : Prop :=
  ∀ s : State, s.power = .running → s.turn = none →
    let p := s.rotation
    let r := s.lineRec p
    let ack : Ack := ⟨r.lastTaken, !r.synced⟩
    let begun (t : State) (cmd : TurnCmd) (live : Bool) : Prop :=
      t.turn = some ⟨p, ack, cmd, live⟩ ∧ t.rotation = p ∧ t.heard = []
    let written (t : State) (e : TraceEntry) : Prop :=
      t.lineRec p = { r with ring := ringWith r.ring e } ∧ t.faults = s.faults.handed p e
    match r.pendingCmd with
    | none => ∃ t, exec .poll s = .next t ∧ begun t .poll false ∧ s.SameOutside [.turn] t
    | some (.print c) =>
      ∃ t, exec .print s = .next t ∧ begun t (.print c) true ∧
        written t ⟨.print, some c.tag, some c.expected, s.clock⟩ ∧
        t.printer p = { s.printer p with
          timer := some ((s.printer p).timer.getD ⟨.feeding, s.now + 300⟩) } ∧
        s.SameOutside [.turn, .line p, .printer p, .faults] t
    | some .clear =>
      ∃ t, exec .clear s = .next t ∧ begun t .clear true ∧ written t ⟨.clear, none, none, s.clock⟩ ∧
        s.SameOutside [.turn, .line p, .faults] t

/-- A good reply ends the turn: the misses are 0, its marks are the last reported ones, the record is synchronised, and the
last-taken number follows the distances of the events, or the resync where the mark was absent (R93, R98, R99, R101). The
cover and latched-fault marks give the printer its state and return mark by R85: READY and OFFLINE follow them, WITHDRAWN and
FAULTED in the reply to the CLEAR, FAULTED else changes with another latched fault, and COVER_OPEN with a closed cover. The
pending command that the turn sent does not stand after the reply: it becomes none, a CLEAR where the return mark calls for
one, or the PRINT of a permission given in the event (R94). Which reply answers the CLEAR of a return mark is the model's
choice (notes/assumptions 15), as is that a command given in the event does not fall at the turn's end (notes/assumptions 9).
An event at another distance than 1 to 4 is a duplicate: the reply is taken as without it (R98). A taken FED, PRINTED or EJECTED
that matches no job leaves its trace entry and nothing else (R43, R118). -/
def Obligations.GoodReplyTaken : Prop :=
  ∀ (u : Turn) (raw : StatusReply) (v : Status) (s : State), s.turn = some u → typeReply raw = some v →
    let after (last : EventNo) (es : List (EventNo × Event)) : EventNo :=
      es.foldl (fun last e => if 1 ≤ (e.1 - last).toNat ∧ (e.1 - last).toNat ≤ 4 then e.1 else last) last
    let p := u.printer
    let r := s.lineRec p
    let old := s.printer p
    let last (es : List (EventNo × Event)) : EventNo :=
      if r.synced then after r.lastTaken es
      else match es with
        | [] => v.newest
        | e :: es => after e.1 es
    let fresh (n : EventNo) (before : List (EventNo × Event)) : Prop :=
      (r.synced = false ∧ before = []) ∨ 1 ≤ (n - last before).toNat ∧ (n - last before).toNat ≤ 4
    let sent : Prop := u.live = true ∧ match u.cmd with
      | .print c => r.pendingCmd = some (.print c)
      | .clear => r.pendingCmd = some .clear
      | .poll => False
    let answers := u.cmd = .clear ∧ old.returnMark = true
    let shown : PrinterState := match v.latched with
      | some k => .faulted k
      | none => if v.cover then .faulted .coverOpen else .ready
    (∀ before n e rest, v.events = before ++ (n, e) :: rest → ¬fresh n before →
      exec (.goodReply raw) s = exec (.goodReply { raw with events := raw.events.eraseIdx before.length }) s) ∧
    (∀ n e rest g k st x, v.events = (n, e) :: rest → fresh n [] →
      (e = .fed g x ∧ k = .fed ∧ st = .feeding) ∨ (e = .printed g ∧ x = none ∧ k = .printed ∧ st = .printing) ∨
        (e = .ejected g ∧ x = none ∧ k = .ejected ∧ st = .delivering) →
      (∀ j ∈ s.jobs, j.tag = g → j.printer = some p → j.state ≠ st) →
      let written : TraceEntry := ⟨k, some g, x, s.clock⟩
      exec (.goodReply raw) s = exec (.goodReply { raw with events := raw.events.tail })
        ({ s with faults := s.faults.handed p written }.modLine p fun r =>
          { r with lastTaken := n, synced := true, ring := ringWith r.ring written })) ∧
    ∃ t, exec (.goodReply raw) s = .next t ∧ t.turn = none ∧ t.rotation = nextPrinter s.rotation ∧ t.heard = [] ∧
      (t.lineRec p).misses = 0 ∧ (t.lineRec p).lastMarks = some ⟨raw.marks, raw.latched⟩ ∧
      (t.lineRec p).synced = true ∧ (t.lineRec p).lastTaken = last v.events ∧
      (match old.state with
        | .ready | .offline => (t.printer p).state = shown ∧ (t.printer p).returnMark = old.returnMark
        | .withdrawn =>
          (answers → (t.printer p).state = shown ∧ (t.printer p).returnMark = false) ∧
          (¬answers → (t.printer p).state = .withdrawn ∧ (t.printer p).returnMark = old.returnMark)
        | .faulted k =>
          (answers → (t.printer p).state = shown ∧ (t.printer p).returnMark = false) ∧
          (¬answers → match v.latched with
            | some k' => (t.printer p).state = .faulted k' ∧ (t.printer p).returnMark = old.returnMark
            | none =>
              if k = .coverOpen ∧ v.cover = false then (t.printer p).state = .ready ∧ (t.printer p).returnMark = false
              else (t.printer p).state = .faulted k ∧ (t.printer p).returnMark = old.returnMark)) ∧
      (v.events = [] → (t.printer p).current = old.current →
        (t.lineRec p).pendingCmd =
          if u.live then (if (t.printer p).returnMark then some .clear else none) else r.pendingCmd) ∧
      (s.TableLawful → s.SlotsLawful → sent → match (t.lineRec p).pendingCmd with
        | none => (t.printer p).returnMark = false
        | some .clear => old.returnMark = true
        | some (.print c) => (t.printer p).current = some ⟨c.tag, c.expected, c.sight⟩ ∧
            (v.events.length ≤ 1 → (t.printer p).timer = none ∧ ∃ j ∈ t.jobs, j.tag = c.tag ∧ j.state = .feeding)) ∧
      s.SameOutside lineParts t

/-- A turn missed: the miss count rises up to 3, with a MISS entry that carries the tag of a PRINT missed and is handed to the
fault log; the pending command stands. Only the third consecutive miss declares NO_RESPONSE: its entry, its record of the
current job as the newest, the printer out of synchronism without reported marks, a READY or FAULTED one OFFLINE without return
mark and staged job, a WITHDRAWN one WITHDRAWN; the current job fails by its stage, and its pending PRINT is discarded, but a
CLEAR stays (R86, R94, R103, R104, R113 to R117, R131 to R138). A reply that is not of the form of R97 is such a miss (R96,
R97), with a tag window above 6 by the model's choice (notes/assumptions 12). -/
def Obligations.TurnMissed : Prop :=
  ∀ (u : Turn) (cause : MissCause) (s : State), s.turn = some u →
    (∀ raw, typeReply raw = none → exec (.goodReply raw) s = exec (.miss .form) s) ∧
    let p := u.printer
    let r := s.lineRec p
    let old := s.printer p
    let missed : Option Tag := match u.cmd with
      | .print c => some c.tag
      | .poll | .clear => none
    let miss : TraceEntry := ⟨.miss cause, missed, none, s.clock⟩
    let lost : TraceEntry := ⟨.noResponse, old.current.map (·.tag), none, s.clock⟩
    ∃ t, exec (.miss cause) s = .next t ∧ t.turn = none ∧ t.rotation = nextPrinter s.rotation ∧ t.heard = [] ∧
      (t.lineRec p).misses = min (r.misses + 1) 3 ∧ (t.lineRec p).lastTaken = r.lastTaken ∧
      s.SameOutside (match old.current with | none => turnParts | some c => failParts c.tag.window) t ∧
      (r.misses ≠ 2 → t.lineRec p = { r with misses := min (r.misses + 1) 3, ring := ringWith r.ring miss } ∧
        t.faults = s.faults.handed p miss ∧
        s.SameOutside (.turn :: .line p :: .faults :: allWindows.flatMap fun w => replyParts (.window w)) t) ∧
      (r.misses = 2 → (t.lineRec p).synced = false ∧ (t.lineRec p).lastMarks = none ∧
        (t.lineRec p).ring = ringWith (ringWith r.ring miss) lost ∧
        (t.printer p).state = (if old.state = .withdrawn then .withdrawn else .offline) ∧
        (t.printer p).returnMark = (if old.state = .withdrawn ∨ old.state = .offline then old.returnMark else false) ∧
        (old.state = .ready → (t.printer p).staged = none) ∧
        (s.power = .running → s.TableLawful → s.SlotsLawful →
          (t.printer p).current = none ∧
          (∀ f, s.CurrentIs p f → ((s.faults.handed p miss).handed p lost).Gains t.faults p .noResponse f
            (t.lineRec p).ring s.clock) ∧
          (∀ c, old.current = some c → ∀ j ∈ s.jobs, j.tag = c.tag → s.CurrentFailed t p j .offline) ∧
          (∀ c, old.current = some c → (∃ x, r.pendingCmd = some (.print x)) →
            (t.lineRec p).pendingCmd = if (t.printer p).returnMark then some .clear else none) ∧
          (r.pendingCmd = some .clear → (t.lineRec p).pendingCmd = some .clear)))

/-! ### The dispatcher -/

/-- A dispatch opportunity begins with the staging of the first, in acceptance order, of the windows' oldest QUEUED jobs that
has a printer: the home printer if it is eligible, else the alternate where the profile holds DIVERT. The job is STAGED on that
printer, in its slot, and the committed count of its magazine is one higher. The opportunity goes on so until no window's
oldest QUEUED job has a printer (R74, R75), and then judges print permission (R78). That all the stagings of an opportunity
are made before permission is judged is the model's choice (notes/assumptions 6). -/
def Obligations.OpportunityStagesByRouting : Prop :=
  let candidate (before : List Job) (j : Job) : Prop :=
    j.state = .queued ∧ ∀ x ∈ before, ¬(x.state = .queued ∧ x.tag.window = j.tag.window)
  let able (s : State) (p : Printer) (k : Stock) : Prop :=
    (s.printer p).state = .ready ∧ (s.printer p).staged = none ∧ (s.mag ⟨p, k⟩).state = .active ∧
      (s.mag ⟨p, k⟩).committed < (s.mag ⟨p, k⟩).remaining
  let takes (s : State) (j : Job) (p : Printer) : Prop :=
    let r := s.routes.get j.tag.window
    able s p j.stock ∧
      (p = r.home ∨ ¬able s r.home j.stock ∧ r.alternate = some p ∧ (s.window j.tag.window).profile.flags.getLsbD 4 = true)
  let first (s : State) (j : Job) (p : Printer) : Prop :=
    takes s j p ∧ ∃ before after, s.jobs = before ++ j :: after ∧ candidate before j ∧
      ∀ b x a, before = b ++ x :: a → candidate b x → ∀ q, ¬takes s x q
  (∀ (s : State) (ps : List Printer) (j : Job) (p : Printer), first s j p →
    ∃ qs u, (s.stage j p).dispatch 3 = (qs, u) ∧ s.dispatch 4 = (p :: qs, u) ∧
      s.opportunity ps = u.judge 4 (ps ++ p :: qs)) ∧
  (∀ (s : State) (ps : List Printer), (∀ j p, ¬first s j p) → s.opportunity ps = s.judgePermission ps) ∧
  (∀ (s : State) (j : Job) (p : Printer),
    (s.stage j p).jobs = s.jobs.map (fun x => if x.tag = j.tag then { x with state := .staged, printer := some p } else x) ∧
      (s.stage j p).printer p = { s.printer p with staged := some j.tag } ∧
      (s.stage j p).mag ⟨p, j.stock⟩ = { s.mag ⟨p, j.stock⟩ with committed := (s.mag ⟨p, j.stock⟩).committed + 1 } ∧
      s.SameOutside [.jobs, .printer p, .mag ⟨p, j.stock⟩] (s.stage j p)) ∧
  ∀ (s : State) (ps : List Printer) (before after : List Job) (j : Job), (s.opportunity ps).jobs = before ++ j :: after →
    candidate before j → ∀ q, ¬takes (s.opportunity ps) j q

/-! ### Outcomes of prints -/

/-- What the stock register takes from a good reply. A FED of the job in the current slot draws its blank and is the stock
type last fed. When it agrees with the expected serial, or carries none where none was asked for, the job is PRINTING with
its serial and that limit runs; the audit counter counts, the sight-due mark follows, a magazine drawn out is EXHAUSTED, and
the PRINT is answered when its own turn carried the FED. When its sighting disagrees, the expected serial is SPOILED by
SIGHT, the magazine is DISCREPANT with nothing committed, the fault has its record, and the job leaves the slot for the queue
with its retry count unchanged (R57 to R60, R65, R80, R94, R109, R110). A MAG_OPEN holds the magazine; a MAG_CLOSED judges
its sighting; a magazine shown empty, if ACTIVE, is DISCREPANT (R52 to R54). That a FED in a turn that did not carry the PRINT
leaves the PRINT pending is the model's choice (notes/assumptions 17), as is that the slot keeps the expected serial and the
sight request a FED is compared with (notes/assumptions 10). -/
def Obligations.FedDrawsTheBlank : Prop :=
  ∀ (u : Turn) (raw : StatusReply) (v : Status) (s : State),
    s.power = .running → s.TableLawful → s.SlotsLawful → s.turn = some u → typeReply raw = some v →
    let p := u.printer
    let r := s.lineRec p
    let taken (n : EventNo) : Prop :=
      r.synced = false ∨ 1 ≤ (n - r.lastTaken).toNat ∧ (n - r.lastTaken).toNat ≤ 4
    let shown : Stock → Bool
      | .ticket => v.emptyTicket
      | .coupon => v.emptyCoupon
    let written (t : State) (e : TraceEntry) : Prop := (t.lineRec p).ring = ringWith r.ring e
    let unrecorded (t : State) (e : TraceEntry) : Prop := written t e ∧ t.faults = s.faults.handed p e
    let recorded (t : State) (e : TraceEntry) (k : RecordKind) (f : FaultFields) : Prop :=
      written t e ∧ (s.faults.handed p e).Gains t.faults p k f (ringWith r.ring e) s.clock
    (∀ (n : EventNo) (x : Option Nat) (j : Job) (c : Current), v.events = [(n, .fed j.tag x)] → taken n →
      j ∈ s.jobs → j.printer = some p → j.state = .feeding → (s.printer p).current = some c →
      let m : MagId := ⟨p, j.stock⟩
      let old := s.mag m
      let k := s.stock.get j.stock
      let e : TraceEntry := ⟨.fed, some j.tag, x, s.clock⟩
      let counts := old.state = .active ∧ 0 < k.reload
      let zero := counts ∧ old.counter ≤ 1
      ∃ t, exec (.goodReply raw) s = .next t ∧ s.SameOutside (.exceptions :: .stock j.stock :: turnParts) t ∧
        (t.mag m).pack = old.pack.map (fun q => { q with next := q.next + 1 }) ∧
        (t.printer p).lastStock = some j.stock ∧ (t.mag m).committed = t.jobs.countP (·.commitsTo m) ∧
        (x = some c.expected ∨ x = none ∧ c.sight = false →
          { j with state := .printing, serial := some c.expected } ∈ t.jobs ∧ (t.printer p).current = some c ∧
          (t.printer p).timer = some ⟨.printing, s.now + 500⟩ ∧ t.exceptions = s.exceptions ∧
          (t.lineRec p).pendingCmd =
            (if u.live then (if (t.printer p).returnMark then some .clear else none) else r.pendingCmd) ∧
          (zero → (t.mag m).counter = k.pendingReload.getD k.reload ∧ (t.mag m).sightDue = true ∧
            t.stock.get j.stock = { k with reload := k.pendingReload.getD k.reload, pendingReload := none }) ∧
          (¬zero → (counts → (t.mag m).counter = old.counter - 1) ∧ (¬counts → (t.mag m).counter = old.counter) ∧
            (t.mag m).sightDue = (old.sightDue && x.isNone) ∧ t.stock.get j.stock = k) ∧
          (shown j.stock = false →
            (t.mag m).state = if old.state = .active ∧ old.remaining = 1 then .exhausted else old.state) ∧
          (v.emptyTicket = false → v.emptyCoupon = false → unrecorded t e)) ∧
        (x ≠ some c.expected → x ≠ none ∨ c.sight = true →
          (t.mag m).state = .discrepant ∧ (t.mag m).committed = 0 ∧ (t.mag m).counter = old.counter ∧
          (t.mag m).sightDue = old.sightDue ∧
          t.exceptions = s.exceptions ++ [⟨j.stock, c.expected, .spoiled, .sight, some j.tag, x, s.clock⟩] ∧
          t.stock.get j.stock = { k with spoiled := min (k.spoiled + 1) 999999 } ∧
          (t.printer p).lastOutcome = some s.now ∧ (t.printer p).timer = none ∧
          (∀ y, (t.printer p).current = some y → y.tag ≠ j.tag) ∧
          (∃ j' ∈ t.jobs, j'.tag = j.tag ∧ j'.retry = j.retry ∧ j'.serial = none ∧ j'.printer ≠ some p) ∧
          (v.emptyTicket = false → v.emptyCoupon = false →
            recorded t e .sightMismatch ⟨some .feeding, some j.tag, some c.expected, x, some m⟩))) ∧
    (∀ (n : EventNo) (k : Stock), v.events = [(n, .magOpen k)] → taken n →
      let m : MagId := ⟨p, k⟩
      let e : TraceEntry := ⟨.magOpen k, none, none, s.clock⟩
      ∃ t, exec (.goodReply raw) s = .next t ∧ s.SameOutside turnParts t ∧
        { t.mag m with committed := 0 } = { s.mag m with
          committed := 0
          state := match (s.mag m).state with
            | .active | .pending | .held _ => .held .opened
            | .empty => .empty | .discrepant => .discrepant | .exhausted => .exhausted } ∧
        (v.emptyTicket = false → v.emptyCoupon = false →
          if (s.mag m).state = .active then
            ∀ f, s.CurrentIs p f → recorded t e .magazineOpened { f with serial := none, mag := some m }
          else unrecorded t e)) ∧
    (∀ (n : EventNo) (k : Stock) (x : Option Nat), v.events = [(n, .magClosed k x)] → taken n →
      let m : MagId := ⟨p, k⟩
      let old := s.mag m
      let e : TraceEntry := ⟨.magClosed k, none, x, s.clock⟩
      let expected : Option Nat := match old.pack with
        | none => none
        | some q => if old.notSighted then some q.first else if q.next ≤ q.last then some q.next else none
      ∃ t, exec (.goodReply raw) s = .next t ∧ s.SameOutside turnParts t ∧
        (t.mag m).pack = old.pack ∧ (t.mag m).counter = old.counter ∧
        (old.state = .empty ∨ old.state = .discrepant → t.mag m = old ∧
          (v.emptyTicket = false → v.emptyCoupon = false → unrecorded t e)) ∧
        (old.state ≠ .empty → old.state ≠ .discrepant → x = expected →
          (t.mag m).notSighted = false ∧ (t.mag m).sightDue = false ∧
          (shown k = false → (t.mag m).state = match old.state with
            | .held _ => if 0 < old.remaining then .active else .exhausted
            | .exhausted => .exhausted
            | .pending | .active | .empty | .discrepant => .active) ∧
          (v.emptyTicket = false → v.emptyCoupon = false → unrecorded t e)) ∧
        (old.state ≠ .empty → old.state ≠ .discrepant → x ≠ expected →
          (t.mag m).state = .discrepant ∧ (t.mag m).notSighted = old.notSighted ∧ (t.mag m).sightDue = old.sightDue ∧
          (v.emptyTicket = false → v.emptyCoupon = false → ∀ f, s.CurrentIs p f →
            recorded t e .magazineDiscrepant { f with serial := expected, sighted := x, mag := some m }))) ∧
    (v.events = [] →
      ∃ t, exec (.goodReply raw) s = .next t ∧ s.SameOutside turnParts t ∧
        ∀ k,
          let m : MagId := ⟨p, k⟩
          { t.mag m with committed := 0 } = { s.mag m with
            committed := 0
            state := if shown k = true ∧ (s.mag m).state = .active then .discrepant else (s.mag m).state } ∧
          ((∀ k', shown k' = true ↔ k' = k) → (s.mag m).state = .active → ∀ f, s.CurrentIs p f →
            recorded t ⟨.emptyShown k, none, none, s.clock⟩ .magazineDiscrepant
              { f with serial := some (s.mag m).next, mag := some m }))

/-- A PRINTED makes the job DELIVERING and starts that limit; an EJECTED makes it DONE: it leaves the table, the tallies of its
shift move, each held at its limit with SAT in the sticky set when it would pass it, its shift counts one job less and, when it
was CLOSING and has no more, is DECLARING or computed, the job joins the recent issue list with the clock's stamp, where the
oldest of four goes, and its DONE notice is due (R32, R36, R109, R111, R112, R155, R158, R159). -/
def Obligations.PrintedThenEjectedIssues : Prop :=
  (∀ (x : Tallies) (k : Tender) (z : Stock) (total : Nat) (referred : Bool),
    let y := x.tender.get k
    x.issue k z total referred = { x with
      tender := x.tender.set k ⟨min (y.count + 1) 65535, min (y.net + total) 999999999⟩
      stock := x.stock.set z (min (x.stock.get z + 1) 65535)
      referred := if referred then min (x.referred + 1) 65535 else x.referred }) ∧
  ∀ (u : Turn) (raw : StatusReply) (v : Status) (n : EventNo) (s : State) (j : Job),
    s.power = .running → s.TableLawful → s.SlotsLawful → s.turn = some u → typeReply raw = some v →
    (s.lineRec u.printer).synced = false ∨ isNew n (s.lineRec u.printer).lastTaken = true →
    j ∈ s.jobs → j.printer = some u.printer →
    (v.events = [(n, .printed j.tag)] → j.state = .printing →
      ∃ t, exec (.goodReply raw) s = .next t ∧ { j with state := .delivering } ∈ t.jobs ∧
        (t.printer u.printer).timer = some ⟨.delivering, s.now + 400⟩ ∧ s.SameOutside turnParts t) ∧
    (v.events = [(n, .ejected j.tag)] → j.state = .delivering →
      ∃ t, exec (.goodReply raw) s = .next t ∧
        t.jobs.map (·.tag) = (s.jobs.map (·.tag)).filter (· ≠ j.tag) ∧
        s.JobsLeft t j.tag.window ((s.shift j.tag.window).issued j) 1 ∧
        s.JoinedRecent t j.tag.window ⟨j.tag, j.stock, j.serial.getD 0, j.total, j.tender, s.clock, false⟩ ∧
        t.NoticeOut j.tag.window (.recent j.tag.job) (.job ⟨.done, j.tag, j.stock, j.total, j.serial⟩) ∧
        (t.printer u.printer).lastOutcome = some s.now ∧ s.SameOutside (leaveParts j.tag.window ++ turnParts) t)

/-- A job fails by its stage, when its stage limit runs out (NO_PROGRESS) or a FAULT names it (JAM). In FEEDING the job leaves
the slot for the queue and its magazine is HELD (NO_PROGRESS) unless DISCREPANT, with nothing written off. In PRINTING the
blank is SPOILED, and the job returns once and fails the second time. In DELIVERING the blank and the job are IN_DOUBT. The
stage timer stands, and the entry and the record of the fault describe the job as it was (R80, R100, R106, R109, R113, R115 to
R117, R131, R134, R137). A FAULT that names the staged job returns it (R114); one that names no job of the printer's slots
makes its record and stops nothing. Only the failed job's own window loses a job, and its shift with the last one may end its
CLOSING wait (R32, R155). That STAGE_EXPIRY brings the moment of the limit is the model's choice (notes/assumptions 4). -/
def Obligations.CurrentJobFails : Prop :=
  (∀ (p : Printer) (s : State) (j : Job) (c : Current) (m : StageTimer),
    s.power = .running → s.TableLawful → s.SlotsLawful → (s.printer p).timer = some m →
    (s.printer p).current = some c → j ∈ s.jobs → j.tag = c.tag →
    let serial : Option Nat := if j.state = .feeding then none else j.serial
    let e : TraceEntry := ⟨.timeout m.stage, some j.tag, serial, s.clock⟩
    ∃ t, exec (.stageExpiry p) s = .next t ∧ t.now = max s.now m.limit ∧ s.CurrentFailed t p j .noProgress ∧
      (t.lineRec p).ring = ringWith (s.lineRec p).ring e ∧
      (s.faults.handed p e).Gains t.faults p .noProgress ⟨j.state.stage, some j.tag, serial, none, some ⟨p, j.stock⟩⟩
        (t.lineRec p).ring s.clock ∧
      s.SameOutside (.time :: failParts j.tag.window) t) ∧
  ∀ (u : Turn) (raw : StatusReply) (v : Status) (n : EventNo) (k : FaultKind) (g : Option Tag) (s : State),
    s.power = .running → s.TableLawful → s.SlotsLawful → s.turn = some u → typeReply raw = some v →
    v.events = [(n, .fault k g)] →
    let p := u.printer
    let r := s.lineRec p
    (r.synced = false ∨ 1 ≤ (n - r.lastTaken).toNat ∧ (n - r.lastTaken).toNat ≤ 4) →
    let slotted (j : Job) : Prop := g = some j.tag ∧ j.printer = some p ∧ (j.state = .staged ∨ j.state.reserved = true)
    let e : TraceEntry := ⟨.fault k, g, none, s.clock⟩
    let described (f : FaultFields) : Prop :=
      (g = none ∧ s.CurrentIs p f) ∨
        (∃ j ∈ s.jobs, slotted j ∧ f = ⟨j.state.stage, g, j.serial, none, some ⟨p, j.stock⟩⟩) ∨
        (g ≠ none ∧ (∀ j ∈ s.jobs, ¬slotted j) ∧ f = ⟨none, g, none, none, none⟩)
    ∃ t, exec (.goodReply raw) s = .next t ∧
      (v.emptyTicket = false → v.emptyCoupon = false → (t.lineRec p).ring = ringWith r.ring e ∧
        ∀ f, described f → (s.faults.handed p e).Gains t.faults p (.printer k) f (t.lineRec p).ring s.clock) ∧
      (∀ j ∈ s.jobs, slotted j → j.state ≠ .staged → s.CurrentFailed t p j .jam ∧
        s.SameOutside (failParts j.tag.window) t) ∧
      (∀ j ∈ s.jobs, slotted j → j.state = .staged →
        s.SameOutside turnParts t ∧ s.StagedReturned (s.returnStaged p) p j ∧
        (v.emptyTicket = false → v.emptyCoupon = false → (s.printer p).state = .ready → v.latched = none →
          v.cover = false → u.live = false →
          ∀ q ∈ dispatchParts, q ≠ .line p → ((s.returnStaged p).opportunity []).SameAt t q)) ∧
      ((∀ j ∈ s.jobs, ¬slotted j) → s.SameOutside turnParts t ∧
        ∀ c, (s.printer p).current = some c →
          (t.printer p).current = some c ∧ (t.printer p).timer = (s.printer p).timer)
end

