-- ==== Sys2Proof/Laws/State.lean ====
section
/-! SUPPORT. The record updates of `State`: one lemma per field per update, true by `rfl`; and reading one item of a
collection after writing one. -/

namespace Sys2Proof.Machine

/-! ### Reading after writing -/

@[simp] theorem PerWindow.get_set_same (x : PerWindow α) (w : Window) (v : α) : (x.set w v).get w = v := by cases w <;> rfl

theorem PerWindow.get_set (x : PerWindow α) (w w' : Window) (v : α) :
    (x.set w v).get w' = if w' = w then v else x.get w' := by cases w <;> cases w' <;> rfl

@[simp] theorem PerWindow.get_map (f : α → β) (x : PerWindow α) (w : Window) : (x.map f).get w = f (x.get w) := by cases w <;> rfl

@[simp] theorem PerPrinter.get_set_same (x : PerPrinter α) (p : Printer) (v : α) : (x.set p v).get p = v := by cases p <;> rfl

theorem PerPrinter.get_set (x : PerPrinter α) (p p' : Printer) (v : α) :
    (x.set p v).get p' = if p' = p then v else x.get p' := by cases p <;> cases p' <;> rfl

@[simp] theorem PerPrinter.get_map (f : α → β) (x : PerPrinter α) (p : Printer) : (x.map f).get p = f (x.get p) := by cases p <;> rfl

@[simp] theorem PerStock.get_set_same (x : PerStock α) (k : Stock) (v : α) : (x.set k v).get k = v := by cases k <;> rfl

theorem PerStock.get_set (x : PerStock α) (k k' : Stock) (v : α) :
    (x.set k v).get k' = if k' = k then v else x.get k' := by cases k <;> cases k' <;> rfl

@[simp] theorem PerStock.get_map (f : α → β) (x : PerStock α) (k : Stock) : (x.map f).get k = f (x.get k) := by cases k <;> rfl

@[simp] theorem PerTender.get_set_same (x : PerTender α) (t : Tender) (v : α) : (x.set t v).get t = v := by cases t <;> rfl

theorem PerTender.get_set (x : PerTender α) (t t' : Tender) (v : α) :
    (x.set t v).get t' = if t' = t then v else x.get t' := by cases t <;> cases t' <;> rfl

@[simp] theorem PerTender.get_map (f : α → β) (x : PerTender α) (t : Tender) : (x.map f).get t = f (x.get t) := by cases t <;> rfl

@[simp] theorem PerLink.get_set_same (x : PerLink α) (l : Link) (v : α) : (x.set l v).get l = v := by
  cases l <;> simp [PerLink.get, PerLink.set]

theorem PerLink.get_set (x : PerLink α) (l l' : Link) (v : α) :
    (x.set l v).get l' = if l' = l then v else x.get l' := by
  cases l <;> cases l' <;> simp [PerLink.get, PerLink.set, PerWindow.get_set]

namespace State

/-! ### The item an update changes -/

theorem window_modWindow (s : State) (w w' : Window) (f : WindowRec → WindowRec) :
    (s.modWindow w f).window w' = if w' = w then f (s.window w) else s.window w' := by
  simp [modWindow, window, PerWindow.get_set]

theorem window_modShift (s : State) (w w' : Window) (f : ShiftRec → ShiftRec) :
    (s.modShift w f).window w' = if w' = w then { s.window w with shift := f (s.window w).shift } else s.window w' := by
  simp [modShift, window_modWindow]

theorem printer_modPrinter (s : State) (p p' : Printer) (f : PrinterRec → PrinterRec) :
    (s.modPrinter p f).printer p' = if p' = p then f (s.printer p) else s.printer p' := by
  simp [modPrinter, printer, PerPrinter.get_set]

theorem lineRec_modLine (s : State) (p p' : Printer) (f : LineRec → LineRec) :
    (s.modLine p f).lineRec p' = if p' = p then f (s.lineRec p) else s.lineRec p' := by
  simp [modLine, lineRec, PerPrinter.get_set]

theorem mag_modMag (s : State) (m m' : MagId) (f : Magazine → Magazine) :
    (s.modMag m f).mag m' = if m' = m then f (s.mag m) else s.mag m' := by
  obtain ⟨p, k⟩ := m
  obtain ⟨p', k'⟩ := m'
  simp only [modMag, mag, PerPrinter.get_set, MagId.mk.injEq]
  by_cases hp : p' = p <;> by_cases hk : k' = k <;> simp [hp, hk, PerStock.get_set]

theorem stock_modStock (s : State) (k k' : Stock) (f : StockSettings → StockSettings) :
    (s.modStock k f).stock.get k' = if k' = k then f (s.stock.get k) else s.stock.get k' := by
  simp [modStock, PerStock.get_set]

theorem link_modLink (s : State) (l l' : Link) (f : LinkRec → LinkRec) :
    (s.modLink l f).link l' = if l' = l then f (s.link l) else s.link l' := by
  simp [modLink, link, PerLink.get_set]

@[simp] theorem modJob_jobs (s : State) (t : Tag) (f : Job → Job) :
    (s.modJob t f).jobs = s.jobs.map fun j => if j.tag = t then f j else j := rfl

@[simp] theorem dropJob_jobs (s : State) (t : Tag) : (s.dropJob t).jobs = s.jobs.filter (·.tag ≠ t) := rfl

/-! ### The fields an update leaves -/

@[simp] theorem modWindow_pending (s : State) (w : Window) (f : WindowRec → WindowRec) : (s.modWindow w f).pending = s.pending := rfl
@[simp] theorem modWindow_arrivals (s : State) (w : Window) (f : WindowRec → WindowRec) : (s.modWindow w f).arrivals = s.arrivals := rfl
@[simp] theorem modWindow_now (s : State) (w : Window) (f : WindowRec → WindowRec) : (s.modWindow w f).now = s.now := rfl
@[simp] theorem modWindow_power (s : State) (w : Window) (f : WindowRec → WindowRec) : (s.modWindow w f).power = s.power := rfl
@[simp] theorem modWindow_standby (s : State) (w : Window) (f : WindowRec → WindowRec) : (s.modWindow w f).standby = s.standby := rfl
@[simp] theorem modWindow_linkRate (s : State) (w : Window) (f : WindowRec → WindowRec) : (s.modWindow w f).linkRate = s.linkRate := rfl
@[simp] theorem modWindow_lineRate (s : State) (w : Window) (f : WindowRec → WindowRec) : (s.modWindow w f).lineRate = s.lineRate := rfl
@[simp] theorem modWindow_clock (s : State) (w : Window) (f : WindowRec → WindowRec) : (s.modWindow w f).clock = s.clock := rfl
@[simp] theorem modWindow_clockSince (s : State) (w : Window) (f : WindowRec → WindowRec) : (s.modWindow w f).clockSince = s.clockSince := rfl
@[simp] theorem modWindow_fare (s : State) (w : Window) (f : WindowRec → WindowRec) : (s.modWindow w f).fare = s.fare := rfl
@[simp] theorem modWindow_jobs (s : State) (w : Window) (f : WindowRec → WindowRec) : (s.modWindow w f).jobs = s.jobs := rfl
@[simp] theorem modWindow_exceptions (s : State) (w : Window) (f : WindowRec → WindowRec) : (s.modWindow w f).exceptions = s.exceptions := rfl
@[simp] theorem modWindow_magazines (s : State) (w : Window) (f : WindowRec → WindowRec) : (s.modWindow w f).magazines = s.magazines := rfl
@[simp] theorem modWindow_stock (s : State) (w : Window) (f : WindowRec → WindowRec) : (s.modWindow w f).stock = s.stock := rfl
@[simp] theorem modWindow_printers (s : State) (w : Window) (f : WindowRec → WindowRec) : (s.modWindow w f).printers = s.printers := rfl
@[simp] theorem modWindow_routes (s : State) (w : Window) (f : WindowRec → WindowRec) : (s.modWindow w f).routes = s.routes := rfl
@[simp] theorem modWindow_lines (s : State) (w : Window) (f : WindowRec → WindowRec) : (s.modWindow w f).lines = s.lines := rfl
@[simp] theorem modWindow_rotation (s : State) (w : Window) (f : WindowRec → WindowRec) : (s.modWindow w f).rotation = s.rotation := rfl
@[simp] theorem modWindow_turn (s : State) (w : Window) (f : WindowRec → WindowRec) : (s.modWindow w f).turn = s.turn := rfl
@[simp] theorem modWindow_heard (s : State) (w : Window) (f : WindowRec → WindowRec) : (s.modWindow w f).heard = s.heard := rfl
@[simp] theorem modWindow_faults (s : State) (w : Window) (f : WindowRec → WindowRec) : (s.modWindow w f).faults = s.faults := rfl
@[simp] theorem modWindow_waitOrder (s : State) (w : Window) (f : WindowRec → WindowRec) : (s.modWindow w f).waitOrder = s.waitOrder := rfl
@[simp] theorem modWindow_tolerance (s : State) (w : Window) (f : WindowRec → WindowRec) : (s.modWindow w f).tolerance = s.tolerance := rfl
@[simp] theorem modWindow_cashUps (s : State) (w : Window) (f : WindowRec → WindowRec) : (s.modWindow w f).cashUps = s.cashUps := rfl
@[simp] theorem modWindow_voidPeriod (s : State) (w : Window) (f : WindowRec → WindowRec) : (s.modWindow w f).voidPeriod = s.voidPeriod := rfl
@[simp] theorem modWindow_links (s : State) (w : Window) (f : WindowRec → WindowRec) : (s.modWindow w f).links = s.links := rfl
@[simp] theorem modWindow_cursor (s : State) (w : Window) (f : WindowRec → WindowRec) : (s.modWindow w f).cursor = s.cursor := rfl

@[simp] theorem modShift_pending (s : State) (w : Window) (f : ShiftRec → ShiftRec) : (s.modShift w f).pending = s.pending := rfl
@[simp] theorem modShift_arrivals (s : State) (w : Window) (f : ShiftRec → ShiftRec) : (s.modShift w f).arrivals = s.arrivals := rfl
@[simp] theorem modShift_now (s : State) (w : Window) (f : ShiftRec → ShiftRec) : (s.modShift w f).now = s.now := rfl
@[simp] theorem modShift_power (s : State) (w : Window) (f : ShiftRec → ShiftRec) : (s.modShift w f).power = s.power := rfl
@[simp] theorem modShift_standby (s : State) (w : Window) (f : ShiftRec → ShiftRec) : (s.modShift w f).standby = s.standby := rfl
@[simp] theorem modShift_linkRate (s : State) (w : Window) (f : ShiftRec → ShiftRec) : (s.modShift w f).linkRate = s.linkRate := rfl
@[simp] theorem modShift_lineRate (s : State) (w : Window) (f : ShiftRec → ShiftRec) : (s.modShift w f).lineRate = s.lineRate := rfl
@[simp] theorem modShift_clock (s : State) (w : Window) (f : ShiftRec → ShiftRec) : (s.modShift w f).clock = s.clock := rfl
@[simp] theorem modShift_clockSince (s : State) (w : Window) (f : ShiftRec → ShiftRec) : (s.modShift w f).clockSince = s.clockSince := rfl
@[simp] theorem modShift_fare (s : State) (w : Window) (f : ShiftRec → ShiftRec) : (s.modShift w f).fare = s.fare := rfl
@[simp] theorem modShift_jobs (s : State) (w : Window) (f : ShiftRec → ShiftRec) : (s.modShift w f).jobs = s.jobs := rfl
@[simp] theorem modShift_exceptions (s : State) (w : Window) (f : ShiftRec → ShiftRec) : (s.modShift w f).exceptions = s.exceptions := rfl
@[simp] theorem modShift_magazines (s : State) (w : Window) (f : ShiftRec → ShiftRec) : (s.modShift w f).magazines = s.magazines := rfl
@[simp] theorem modShift_stock (s : State) (w : Window) (f : ShiftRec → ShiftRec) : (s.modShift w f).stock = s.stock := rfl
@[simp] theorem modShift_printers (s : State) (w : Window) (f : ShiftRec → ShiftRec) : (s.modShift w f).printers = s.printers := rfl
@[simp] theorem modShift_routes (s : State) (w : Window) (f : ShiftRec → ShiftRec) : (s.modShift w f).routes = s.routes := rfl
@[simp] theorem modShift_lines (s : State) (w : Window) (f : ShiftRec → ShiftRec) : (s.modShift w f).lines = s.lines := rfl
@[simp] theorem modShift_rotation (s : State) (w : Window) (f : ShiftRec → ShiftRec) : (s.modShift w f).rotation = s.rotation := rfl
@[simp] theorem modShift_turn (s : State) (w : Window) (f : ShiftRec → ShiftRec) : (s.modShift w f).turn = s.turn := rfl
@[simp] theorem modShift_heard (s : State) (w : Window) (f : ShiftRec → ShiftRec) : (s.modShift w f).heard = s.heard := rfl
@[simp] theorem modShift_faults (s : State) (w : Window) (f : ShiftRec → ShiftRec) : (s.modShift w f).faults = s.faults := rfl
@[simp] theorem modShift_waitOrder (s : State) (w : Window) (f : ShiftRec → ShiftRec) : (s.modShift w f).waitOrder = s.waitOrder := rfl
@[simp] theorem modShift_tolerance (s : State) (w : Window) (f : ShiftRec → ShiftRec) : (s.modShift w f).tolerance = s.tolerance := rfl
@[simp] theorem modShift_cashUps (s : State) (w : Window) (f : ShiftRec → ShiftRec) : (s.modShift w f).cashUps = s.cashUps := rfl
@[simp] theorem modShift_voidPeriod (s : State) (w : Window) (f : ShiftRec → ShiftRec) : (s.modShift w f).voidPeriod = s.voidPeriod := rfl
@[simp] theorem modShift_links (s : State) (w : Window) (f : ShiftRec → ShiftRec) : (s.modShift w f).links = s.links := rfl
@[simp] theorem modShift_cursor (s : State) (w : Window) (f : ShiftRec → ShiftRec) : (s.modShift w f).cursor = s.cursor := rfl

@[simp] theorem modPrinter_pending (s : State) (p : Printer) (f : PrinterRec → PrinterRec) : (s.modPrinter p f).pending = s.pending := rfl
@[simp] theorem modPrinter_arrivals (s : State) (p : Printer) (f : PrinterRec → PrinterRec) : (s.modPrinter p f).arrivals = s.arrivals := rfl
@[simp] theorem modPrinter_now (s : State) (p : Printer) (f : PrinterRec → PrinterRec) : (s.modPrinter p f).now = s.now := rfl
@[simp] theorem modPrinter_power (s : State) (p : Printer) (f : PrinterRec → PrinterRec) : (s.modPrinter p f).power = s.power := rfl
@[simp] theorem modPrinter_standby (s : State) (p : Printer) (f : PrinterRec → PrinterRec) : (s.modPrinter p f).standby = s.standby := rfl
@[simp] theorem modPrinter_linkRate (s : State) (p : Printer) (f : PrinterRec → PrinterRec) : (s.modPrinter p f).linkRate = s.linkRate := rfl
@[simp] theorem modPrinter_lineRate (s : State) (p : Printer) (f : PrinterRec → PrinterRec) : (s.modPrinter p f).lineRate = s.lineRate := rfl
@[simp] theorem modPrinter_clock (s : State) (p : Printer) (f : PrinterRec → PrinterRec) : (s.modPrinter p f).clock = s.clock := rfl
@[simp] theorem modPrinter_clockSince (s : State) (p : Printer) (f : PrinterRec → PrinterRec) : (s.modPrinter p f).clockSince = s.clockSince := rfl
@[simp] theorem modPrinter_fare (s : State) (p : Printer) (f : PrinterRec → PrinterRec) : (s.modPrinter p f).fare = s.fare := rfl
@[simp] theorem modPrinter_jobs (s : State) (p : Printer) (f : PrinterRec → PrinterRec) : (s.modPrinter p f).jobs = s.jobs := rfl
@[simp] theorem modPrinter_exceptions (s : State) (p : Printer) (f : PrinterRec → PrinterRec) : (s.modPrinter p f).exceptions = s.exceptions := rfl
@[simp] theorem modPrinter_magazines (s : State) (p : Printer) (f : PrinterRec → PrinterRec) : (s.modPrinter p f).magazines = s.magazines := rfl
@[simp] theorem modPrinter_stock (s : State) (p : Printer) (f : PrinterRec → PrinterRec) : (s.modPrinter p f).stock = s.stock := rfl
@[simp] theorem modPrinter_routes (s : State) (p : Printer) (f : PrinterRec → PrinterRec) : (s.modPrinter p f).routes = s.routes := rfl
@[simp] theorem modPrinter_lines (s : State) (p : Printer) (f : PrinterRec → PrinterRec) : (s.modPrinter p f).lines = s.lines := rfl
@[simp] theorem modPrinter_rotation (s : State) (p : Printer) (f : PrinterRec → PrinterRec) : (s.modPrinter p f).rotation = s.rotation := rfl
@[simp] theorem modPrinter_turn (s : State) (p : Printer) (f : PrinterRec → PrinterRec) : (s.modPrinter p f).turn = s.turn := rfl
@[simp] theorem modPrinter_heard (s : State) (p : Printer) (f : PrinterRec → PrinterRec) : (s.modPrinter p f).heard = s.heard := rfl
@[simp] theorem modPrinter_faults (s : State) (p : Printer) (f : PrinterRec → PrinterRec) : (s.modPrinter p f).faults = s.faults := rfl
@[simp] theorem modPrinter_windows (s : State) (p : Printer) (f : PrinterRec → PrinterRec) : (s.modPrinter p f).windows = s.windows := rfl
@[simp] theorem modPrinter_waitOrder (s : State) (p : Printer) (f : PrinterRec → PrinterRec) : (s.modPrinter p f).waitOrder = s.waitOrder := rfl
@[simp] theorem modPrinter_tolerance (s : State) (p : Printer) (f : PrinterRec → PrinterRec) : (s.modPrinter p f).tolerance = s.tolerance := rfl
@[simp] theorem modPrinter_cashUps (s : State) (p : Printer) (f : PrinterRec → PrinterRec) : (s.modPrinter p f).cashUps = s.cashUps := rfl
@[simp] theorem modPrinter_voidPeriod (s : State) (p : Printer) (f : PrinterRec → PrinterRec) : (s.modPrinter p f).voidPeriod = s.voidPeriod := rfl
@[simp] theorem modPrinter_links (s : State) (p : Printer) (f : PrinterRec → PrinterRec) : (s.modPrinter p f).links = s.links := rfl
@[simp] theorem modPrinter_cursor (s : State) (p : Printer) (f : PrinterRec → PrinterRec) : (s.modPrinter p f).cursor = s.cursor := rfl

@[simp] theorem modLine_pending (s : State) (p : Printer) (f : LineRec → LineRec) : (s.modLine p f).pending = s.pending := rfl
@[simp] theorem modLine_arrivals (s : State) (p : Printer) (f : LineRec → LineRec) : (s.modLine p f).arrivals = s.arrivals := rfl
@[simp] theorem modLine_now (s : State) (p : Printer) (f : LineRec → LineRec) : (s.modLine p f).now = s.now := rfl
@[simp] theorem modLine_power (s : State) (p : Printer) (f : LineRec → LineRec) : (s.modLine p f).power = s.power := rfl
@[simp] theorem modLine_standby (s : State) (p : Printer) (f : LineRec → LineRec) : (s.modLine p f).standby = s.standby := rfl
@[simp] theorem modLine_linkRate (s : State) (p : Printer) (f : LineRec → LineRec) : (s.modLine p f).linkRate = s.linkRate := rfl
@[simp] theorem modLine_lineRate (s : State) (p : Printer) (f : LineRec → LineRec) : (s.modLine p f).lineRate = s.lineRate := rfl
@[simp] theorem modLine_clock (s : State) (p : Printer) (f : LineRec → LineRec) : (s.modLine p f).clock = s.clock := rfl
@[simp] theorem modLine_clockSince (s : State) (p : Printer) (f : LineRec → LineRec) : (s.modLine p f).clockSince = s.clockSince := rfl
@[simp] theorem modLine_fare (s : State) (p : Printer) (f : LineRec → LineRec) : (s.modLine p f).fare = s.fare := rfl
@[simp] theorem modLine_jobs (s : State) (p : Printer) (f : LineRec → LineRec) : (s.modLine p f).jobs = s.jobs := rfl
@[simp] theorem modLine_exceptions (s : State) (p : Printer) (f : LineRec → LineRec) : (s.modLine p f).exceptions = s.exceptions := rfl
@[simp] theorem modLine_magazines (s : State) (p : Printer) (f : LineRec → LineRec) : (s.modLine p f).magazines = s.magazines := rfl
@[simp] theorem modLine_stock (s : State) (p : Printer) (f : LineRec → LineRec) : (s.modLine p f).stock = s.stock := rfl
@[simp] theorem modLine_printers (s : State) (p : Printer) (f : LineRec → LineRec) : (s.modLine p f).printers = s.printers := rfl
@[simp] theorem modLine_routes (s : State) (p : Printer) (f : LineRec → LineRec) : (s.modLine p f).routes = s.routes := rfl
@[simp] theorem modLine_rotation (s : State) (p : Printer) (f : LineRec → LineRec) : (s.modLine p f).rotation = s.rotation := rfl
@[simp] theorem modLine_turn (s : State) (p : Printer) (f : LineRec → LineRec) : (s.modLine p f).turn = s.turn := rfl
@[simp] theorem modLine_heard (s : State) (p : Printer) (f : LineRec → LineRec) : (s.modLine p f).heard = s.heard := rfl
@[simp] theorem modLine_faults (s : State) (p : Printer) (f : LineRec → LineRec) : (s.modLine p f).faults = s.faults := rfl
@[simp] theorem modLine_windows (s : State) (p : Printer) (f : LineRec → LineRec) : (s.modLine p f).windows = s.windows := rfl
@[simp] theorem modLine_waitOrder (s : State) (p : Printer) (f : LineRec → LineRec) : (s.modLine p f).waitOrder = s.waitOrder := rfl
@[simp] theorem modLine_tolerance (s : State) (p : Printer) (f : LineRec → LineRec) : (s.modLine p f).tolerance = s.tolerance := rfl
@[simp] theorem modLine_cashUps (s : State) (p : Printer) (f : LineRec → LineRec) : (s.modLine p f).cashUps = s.cashUps := rfl
@[simp] theorem modLine_voidPeriod (s : State) (p : Printer) (f : LineRec → LineRec) : (s.modLine p f).voidPeriod = s.voidPeriod := rfl
@[simp] theorem modLine_links (s : State) (p : Printer) (f : LineRec → LineRec) : (s.modLine p f).links = s.links := rfl
@[simp] theorem modLine_cursor (s : State) (p : Printer) (f : LineRec → LineRec) : (s.modLine p f).cursor = s.cursor := rfl

@[simp] theorem modMag_pending (s : State) (m : MagId) (f : Magazine → Magazine) : (s.modMag m f).pending = s.pending := rfl
@[simp] theorem modMag_arrivals (s : State) (m : MagId) (f : Magazine → Magazine) : (s.modMag m f).arrivals = s.arrivals := rfl
@[simp] theorem modMag_now (s : State) (m : MagId) (f : Magazine → Magazine) : (s.modMag m f).now = s.now := rfl
@[simp] theorem modMag_power (s : State) (m : MagId) (f : Magazine → Magazine) : (s.modMag m f).power = s.power := rfl
@[simp] theorem modMag_standby (s : State) (m : MagId) (f : Magazine → Magazine) : (s.modMag m f).standby = s.standby := rfl
@[simp] theorem modMag_linkRate (s : State) (m : MagId) (f : Magazine → Magazine) : (s.modMag m f).linkRate = s.linkRate := rfl
@[simp] theorem modMag_lineRate (s : State) (m : MagId) (f : Magazine → Magazine) : (s.modMag m f).lineRate = s.lineRate := rfl
@[simp] theorem modMag_clock (s : State) (m : MagId) (f : Magazine → Magazine) : (s.modMag m f).clock = s.clock := rfl
@[simp] theorem modMag_clockSince (s : State) (m : MagId) (f : Magazine → Magazine) : (s.modMag m f).clockSince = s.clockSince := rfl
@[simp] theorem modMag_fare (s : State) (m : MagId) (f : Magazine → Magazine) : (s.modMag m f).fare = s.fare := rfl
@[simp] theorem modMag_jobs (s : State) (m : MagId) (f : Magazine → Magazine) : (s.modMag m f).jobs = s.jobs := rfl
@[simp] theorem modMag_exceptions (s : State) (m : MagId) (f : Magazine → Magazine) : (s.modMag m f).exceptions = s.exceptions := rfl
@[simp] theorem modMag_stock (s : State) (m : MagId) (f : Magazine → Magazine) : (s.modMag m f).stock = s.stock := rfl
@[simp] theorem modMag_printers (s : State) (m : MagId) (f : Magazine → Magazine) : (s.modMag m f).printers = s.printers := rfl
@[simp] theorem modMag_routes (s : State) (m : MagId) (f : Magazine → Magazine) : (s.modMag m f).routes = s.routes := rfl
@[simp] theorem modMag_lines (s : State) (m : MagId) (f : Magazine → Magazine) : (s.modMag m f).lines = s.lines := rfl
@[simp] theorem modMag_rotation (s : State) (m : MagId) (f : Magazine → Magazine) : (s.modMag m f).rotation = s.rotation := rfl
@[simp] theorem modMag_turn (s : State) (m : MagId) (f : Magazine → Magazine) : (s.modMag m f).turn = s.turn := rfl
@[simp] theorem modMag_heard (s : State) (m : MagId) (f : Magazine → Magazine) : (s.modMag m f).heard = s.heard := rfl
@[simp] theorem modMag_faults (s : State) (m : MagId) (f : Magazine → Magazine) : (s.modMag m f).faults = s.faults := rfl
@[simp] theorem modMag_windows (s : State) (m : MagId) (f : Magazine → Magazine) : (s.modMag m f).windows = s.windows := rfl
@[simp] theorem modMag_waitOrder (s : State) (m : MagId) (f : Magazine → Magazine) : (s.modMag m f).waitOrder = s.waitOrder := rfl
@[simp] theorem modMag_tolerance (s : State) (m : MagId) (f : Magazine → Magazine) : (s.modMag m f).tolerance = s.tolerance := rfl
@[simp] theorem modMag_cashUps (s : State) (m : MagId) (f : Magazine → Magazine) : (s.modMag m f).cashUps = s.cashUps := rfl
@[simp] theorem modMag_voidPeriod (s : State) (m : MagId) (f : Magazine → Magazine) : (s.modMag m f).voidPeriod = s.voidPeriod := rfl
@[simp] theorem modMag_links (s : State) (m : MagId) (f : Magazine → Magazine) : (s.modMag m f).links = s.links := rfl
@[simp] theorem modMag_cursor (s : State) (m : MagId) (f : Magazine → Magazine) : (s.modMag m f).cursor = s.cursor := rfl

@[simp] theorem modStock_pending (s : State) (k : Stock) (f : StockSettings → StockSettings) : (s.modStock k f).pending = s.pending := rfl
@[simp] theorem modStock_arrivals (s : State) (k : Stock) (f : StockSettings → StockSettings) : (s.modStock k f).arrivals = s.arrivals := rfl
@[simp] theorem modStock_now (s : State) (k : Stock) (f : StockSettings → StockSettings) : (s.modStock k f).now = s.now := rfl
@[simp] theorem modStock_power (s : State) (k : Stock) (f : StockSettings → StockSettings) : (s.modStock k f).power = s.power := rfl
@[simp] theorem modStock_standby (s : State) (k : Stock) (f : StockSettings → StockSettings) : (s.modStock k f).standby = s.standby := rfl
@[simp] theorem modStock_linkRate (s : State) (k : Stock) (f : StockSettings → StockSettings) : (s.modStock k f).linkRate = s.linkRate := rfl
@[simp] theorem modStock_lineRate (s : State) (k : Stock) (f : StockSettings → StockSettings) : (s.modStock k f).lineRate = s.lineRate := rfl
@[simp] theorem modStock_clock (s : State) (k : Stock) (f : StockSettings → StockSettings) : (s.modStock k f).clock = s.clock := rfl
@[simp] theorem modStock_clockSince (s : State) (k : Stock) (f : StockSettings → StockSettings) : (s.modStock k f).clockSince = s.clockSince := rfl
@[simp] theorem modStock_fare (s : State) (k : Stock) (f : StockSettings → StockSettings) : (s.modStock k f).fare = s.fare := rfl
@[simp] theorem modStock_jobs (s : State) (k : Stock) (f : StockSettings → StockSettings) : (s.modStock k f).jobs = s.jobs := rfl
@[simp] theorem modStock_exceptions (s : State) (k : Stock) (f : StockSettings → StockSettings) : (s.modStock k f).exceptions = s.exceptions := rfl
@[simp] theorem modStock_magazines (s : State) (k : Stock) (f : StockSettings → StockSettings) : (s.modStock k f).magazines = s.magazines := rfl
@[simp] theorem modStock_printers (s : State) (k : Stock) (f : StockSettings → StockSettings) : (s.modStock k f).printers = s.printers := rfl
@[simp] theorem modStock_routes (s : State) (k : Stock) (f : StockSettings → StockSettings) : (s.modStock k f).routes = s.routes := rfl
@[simp] theorem modStock_lines (s : State) (k : Stock) (f : StockSettings → StockSettings) : (s.modStock k f).lines = s.lines := rfl
@[simp] theorem modStock_rotation (s : State) (k : Stock) (f : StockSettings → StockSettings) : (s.modStock k f).rotation = s.rotation := rfl
@[simp] theorem modStock_turn (s : State) (k : Stock) (f : StockSettings → StockSettings) : (s.modStock k f).turn = s.turn := rfl
@[simp] theorem modStock_heard (s : State) (k : Stock) (f : StockSettings → StockSettings) : (s.modStock k f).heard = s.heard := rfl
@[simp] theorem modStock_faults (s : State) (k : Stock) (f : StockSettings → StockSettings) : (s.modStock k f).faults = s.faults := rfl
@[simp] theorem modStock_windows (s : State) (k : Stock) (f : StockSettings → StockSettings) : (s.modStock k f).windows = s.windows := rfl
@[simp] theorem modStock_waitOrder (s : State) (k : Stock) (f : StockSettings → StockSettings) : (s.modStock k f).waitOrder = s.waitOrder := rfl
@[simp] theorem modStock_tolerance (s : State) (k : Stock) (f : StockSettings → StockSettings) : (s.modStock k f).tolerance = s.tolerance := rfl
@[simp] theorem modStock_cashUps (s : State) (k : Stock) (f : StockSettings → StockSettings) : (s.modStock k f).cashUps = s.cashUps := rfl
@[simp] theorem modStock_voidPeriod (s : State) (k : Stock) (f : StockSettings → StockSettings) : (s.modStock k f).voidPeriod = s.voidPeriod := rfl
@[simp] theorem modStock_links (s : State) (k : Stock) (f : StockSettings → StockSettings) : (s.modStock k f).links = s.links := rfl
@[simp] theorem modStock_cursor (s : State) (k : Stock) (f : StockSettings → StockSettings) : (s.modStock k f).cursor = s.cursor := rfl

@[simp] theorem modLink_pending (s : State) (l : Link) (f : LinkRec → LinkRec) : (s.modLink l f).pending = s.pending := rfl
@[simp] theorem modLink_arrivals (s : State) (l : Link) (f : LinkRec → LinkRec) : (s.modLink l f).arrivals = s.arrivals := rfl
@[simp] theorem modLink_now (s : State) (l : Link) (f : LinkRec → LinkRec) : (s.modLink l f).now = s.now := rfl
@[simp] theorem modLink_power (s : State) (l : Link) (f : LinkRec → LinkRec) : (s.modLink l f).power = s.power := rfl
@[simp] theorem modLink_standby (s : State) (l : Link) (f : LinkRec → LinkRec) : (s.modLink l f).standby = s.standby := rfl
@[simp] theorem modLink_linkRate (s : State) (l : Link) (f : LinkRec → LinkRec) : (s.modLink l f).linkRate = s.linkRate := rfl
@[simp] theorem modLink_lineRate (s : State) (l : Link) (f : LinkRec → LinkRec) : (s.modLink l f).lineRate = s.lineRate := rfl
@[simp] theorem modLink_clock (s : State) (l : Link) (f : LinkRec → LinkRec) : (s.modLink l f).clock = s.clock := rfl
@[simp] theorem modLink_clockSince (s : State) (l : Link) (f : LinkRec → LinkRec) : (s.modLink l f).clockSince = s.clockSince := rfl
@[simp] theorem modLink_fare (s : State) (l : Link) (f : LinkRec → LinkRec) : (s.modLink l f).fare = s.fare := rfl
@[simp] theorem modLink_jobs (s : State) (l : Link) (f : LinkRec → LinkRec) : (s.modLink l f).jobs = s.jobs := rfl
@[simp] theorem modLink_exceptions (s : State) (l : Link) (f : LinkRec → LinkRec) : (s.modLink l f).exceptions = s.exceptions := rfl
@[simp] theorem modLink_magazines (s : State) (l : Link) (f : LinkRec → LinkRec) : (s.modLink l f).magazines = s.magazines := rfl
@[simp] theorem modLink_stock (s : State) (l : Link) (f : LinkRec → LinkRec) : (s.modLink l f).stock = s.stock := rfl
@[simp] theorem modLink_printers (s : State) (l : Link) (f : LinkRec → LinkRec) : (s.modLink l f).printers = s.printers := rfl
@[simp] theorem modLink_routes (s : State) (l : Link) (f : LinkRec → LinkRec) : (s.modLink l f).routes = s.routes := rfl
@[simp] theorem modLink_lines (s : State) (l : Link) (f : LinkRec → LinkRec) : (s.modLink l f).lines = s.lines := rfl
@[simp] theorem modLink_rotation (s : State) (l : Link) (f : LinkRec → LinkRec) : (s.modLink l f).rotation = s.rotation := rfl
@[simp] theorem modLink_turn (s : State) (l : Link) (f : LinkRec → LinkRec) : (s.modLink l f).turn = s.turn := rfl
@[simp] theorem modLink_heard (s : State) (l : Link) (f : LinkRec → LinkRec) : (s.modLink l f).heard = s.heard := rfl
@[simp] theorem modLink_faults (s : State) (l : Link) (f : LinkRec → LinkRec) : (s.modLink l f).faults = s.faults := rfl
@[simp] theorem modLink_windows (s : State) (l : Link) (f : LinkRec → LinkRec) : (s.modLink l f).windows = s.windows := rfl
@[simp] theorem modLink_waitOrder (s : State) (l : Link) (f : LinkRec → LinkRec) : (s.modLink l f).waitOrder = s.waitOrder := rfl
@[simp] theorem modLink_tolerance (s : State) (l : Link) (f : LinkRec → LinkRec) : (s.modLink l f).tolerance = s.tolerance := rfl
@[simp] theorem modLink_cashUps (s : State) (l : Link) (f : LinkRec → LinkRec) : (s.modLink l f).cashUps = s.cashUps := rfl
@[simp] theorem modLink_voidPeriod (s : State) (l : Link) (f : LinkRec → LinkRec) : (s.modLink l f).voidPeriod = s.voidPeriod := rfl
@[simp] theorem modLink_cursor (s : State) (l : Link) (f : LinkRec → LinkRec) : (s.modLink l f).cursor = s.cursor := rfl

@[simp] theorem modJob_pending (s : State) (t : Tag) (f : Job → Job) : (s.modJob t f).pending = s.pending := rfl
@[simp] theorem modJob_arrivals (s : State) (t : Tag) (f : Job → Job) : (s.modJob t f).arrivals = s.arrivals := rfl
@[simp] theorem modJob_now (s : State) (t : Tag) (f : Job → Job) : (s.modJob t f).now = s.now := rfl
@[simp] theorem modJob_power (s : State) (t : Tag) (f : Job → Job) : (s.modJob t f).power = s.power := rfl
@[simp] theorem modJob_standby (s : State) (t : Tag) (f : Job → Job) : (s.modJob t f).standby = s.standby := rfl
@[simp] theorem modJob_linkRate (s : State) (t : Tag) (f : Job → Job) : (s.modJob t f).linkRate = s.linkRate := rfl
@[simp] theorem modJob_lineRate (s : State) (t : Tag) (f : Job → Job) : (s.modJob t f).lineRate = s.lineRate := rfl
@[simp] theorem modJob_clock (s : State) (t : Tag) (f : Job → Job) : (s.modJob t f).clock = s.clock := rfl
@[simp] theorem modJob_clockSince (s : State) (t : Tag) (f : Job → Job) : (s.modJob t f).clockSince = s.clockSince := rfl
@[simp] theorem modJob_fare (s : State) (t : Tag) (f : Job → Job) : (s.modJob t f).fare = s.fare := rfl
@[simp] theorem modJob_exceptions (s : State) (t : Tag) (f : Job → Job) : (s.modJob t f).exceptions = s.exceptions := rfl
@[simp] theorem modJob_magazines (s : State) (t : Tag) (f : Job → Job) : (s.modJob t f).magazines = s.magazines := rfl
@[simp] theorem modJob_stock (s : State) (t : Tag) (f : Job → Job) : (s.modJob t f).stock = s.stock := rfl
@[simp] theorem modJob_printers (s : State) (t : Tag) (f : Job → Job) : (s.modJob t f).printers = s.printers := rfl
@[simp] theorem modJob_routes (s : State) (t : Tag) (f : Job → Job) : (s.modJob t f).routes = s.routes := rfl
@[simp] theorem modJob_lines (s : State) (t : Tag) (f : Job → Job) : (s.modJob t f).lines = s.lines := rfl
@[simp] theorem modJob_rotation (s : State) (t : Tag) (f : Job → Job) : (s.modJob t f).rotation = s.rotation := rfl
@[simp] theorem modJob_turn (s : State) (t : Tag) (f : Job → Job) : (s.modJob t f).turn = s.turn := rfl
@[simp] theorem modJob_heard (s : State) (t : Tag) (f : Job → Job) : (s.modJob t f).heard = s.heard := rfl
@[simp] theorem modJob_faults (s : State) (t : Tag) (f : Job → Job) : (s.modJob t f).faults = s.faults := rfl
@[simp] theorem modJob_windows (s : State) (t : Tag) (f : Job → Job) : (s.modJob t f).windows = s.windows := rfl
@[simp] theorem modJob_waitOrder (s : State) (t : Tag) (f : Job → Job) : (s.modJob t f).waitOrder = s.waitOrder := rfl
@[simp] theorem modJob_tolerance (s : State) (t : Tag) (f : Job → Job) : (s.modJob t f).tolerance = s.tolerance := rfl
@[simp] theorem modJob_cashUps (s : State) (t : Tag) (f : Job → Job) : (s.modJob t f).cashUps = s.cashUps := rfl
@[simp] theorem modJob_voidPeriod (s : State) (t : Tag) (f : Job → Job) : (s.modJob t f).voidPeriod = s.voidPeriod := rfl
@[simp] theorem modJob_links (s : State) (t : Tag) (f : Job → Job) : (s.modJob t f).links = s.links := rfl
@[simp] theorem modJob_cursor (s : State) (t : Tag) (f : Job → Job) : (s.modJob t f).cursor = s.cursor := rfl

@[simp] theorem dropJob_pending (s : State) (t : Tag) : (s.dropJob t).pending = s.pending := rfl
@[simp] theorem dropJob_arrivals (s : State) (t : Tag) : (s.dropJob t).arrivals = s.arrivals := rfl
@[simp] theorem dropJob_now (s : State) (t : Tag) : (s.dropJob t).now = s.now := rfl
@[simp] theorem dropJob_power (s : State) (t : Tag) : (s.dropJob t).power = s.power := rfl
@[simp] theorem dropJob_standby (s : State) (t : Tag) : (s.dropJob t).standby = s.standby := rfl
@[simp] theorem dropJob_linkRate (s : State) (t : Tag) : (s.dropJob t).linkRate = s.linkRate := rfl
@[simp] theorem dropJob_lineRate (s : State) (t : Tag) : (s.dropJob t).lineRate = s.lineRate := rfl
@[simp] theorem dropJob_clock (s : State) (t : Tag) : (s.dropJob t).clock = s.clock := rfl
@[simp] theorem dropJob_clockSince (s : State) (t : Tag) : (s.dropJob t).clockSince = s.clockSince := rfl
@[simp] theorem dropJob_fare (s : State) (t : Tag) : (s.dropJob t).fare = s.fare := rfl
@[simp] theorem dropJob_exceptions (s : State) (t : Tag) : (s.dropJob t).exceptions = s.exceptions := rfl
@[simp] theorem dropJob_magazines (s : State) (t : Tag) : (s.dropJob t).magazines = s.magazines := rfl
@[simp] theorem dropJob_stock (s : State) (t : Tag) : (s.dropJob t).stock = s.stock := rfl
@[simp] theorem dropJob_printers (s : State) (t : Tag) : (s.dropJob t).printers = s.printers := rfl
@[simp] theorem dropJob_routes (s : State) (t : Tag) : (s.dropJob t).routes = s.routes := rfl
@[simp] theorem dropJob_lines (s : State) (t : Tag) : (s.dropJob t).lines = s.lines := rfl
@[simp] theorem dropJob_rotation (s : State) (t : Tag) : (s.dropJob t).rotation = s.rotation := rfl
@[simp] theorem dropJob_turn (s : State) (t : Tag) : (s.dropJob t).turn = s.turn := rfl
@[simp] theorem dropJob_heard (s : State) (t : Tag) : (s.dropJob t).heard = s.heard := rfl
@[simp] theorem dropJob_faults (s : State) (t : Tag) : (s.dropJob t).faults = s.faults := rfl
@[simp] theorem dropJob_windows (s : State) (t : Tag) : (s.dropJob t).windows = s.windows := rfl
@[simp] theorem dropJob_waitOrder (s : State) (t : Tag) : (s.dropJob t).waitOrder = s.waitOrder := rfl
@[simp] theorem dropJob_tolerance (s : State) (t : Tag) : (s.dropJob t).tolerance = s.tolerance := rfl
@[simp] theorem dropJob_cashUps (s : State) (t : Tag) : (s.dropJob t).cashUps = s.cashUps := rfl
@[simp] theorem dropJob_voidPeriod (s : State) (t : Tag) : (s.dropJob t).voidPeriod = s.voidPeriod := rfl
@[simp] theorem dropJob_links (s : State) (t : Tag) : (s.dropJob t).links = s.links := rfl
@[simp] theorem dropJob_cursor (s : State) (t : Tag) : (s.dropJob t).cursor = s.cursor := rfl

/-! ### The records an update leaves -/

@[simp] theorem modWindow_printer (s : State) (w : Window) (f : WindowRec → WindowRec) (p' : Printer) : (s.modWindow w f).printer p' = s.printer p' := rfl
@[simp] theorem modWindow_lineRec (s : State) (w : Window) (f : WindowRec → WindowRec) (p' : Printer) : (s.modWindow w f).lineRec p' = s.lineRec p' := rfl
@[simp] theorem modWindow_mag (s : State) (w : Window) (f : WindowRec → WindowRec) (m' : MagId) : (s.modWindow w f).mag m' = s.mag m' := rfl
@[simp] theorem modWindow_link (s : State) (w : Window) (f : WindowRec → WindowRec) (l' : Link) : (s.modWindow w f).link l' = s.link l' := rfl
@[simp] theorem modWindow_findJob (s : State) (w : Window) (f : WindowRec → WindowRec) (t' : Tag) : (s.modWindow w f).findJob t' = s.findJob t' := rfl
@[simp] theorem modWindow_reservations (s : State) (w : Window) (f : WindowRec → WindowRec) : (s.modWindow w f).reservations = s.reservations := rfl

@[simp] theorem modShift_printer (s : State) (w : Window) (f : ShiftRec → ShiftRec) (p' : Printer) : (s.modShift w f).printer p' = s.printer p' := rfl
@[simp] theorem modShift_lineRec (s : State) (w : Window) (f : ShiftRec → ShiftRec) (p' : Printer) : (s.modShift w f).lineRec p' = s.lineRec p' := rfl
@[simp] theorem modShift_mag (s : State) (w : Window) (f : ShiftRec → ShiftRec) (m' : MagId) : (s.modShift w f).mag m' = s.mag m' := rfl
@[simp] theorem modShift_link (s : State) (w : Window) (f : ShiftRec → ShiftRec) (l' : Link) : (s.modShift w f).link l' = s.link l' := rfl
@[simp] theorem modShift_findJob (s : State) (w : Window) (f : ShiftRec → ShiftRec) (t' : Tag) : (s.modShift w f).findJob t' = s.findJob t' := rfl
@[simp] theorem modShift_reservations (s : State) (w : Window) (f : ShiftRec → ShiftRec) : (s.modShift w f).reservations = s.reservations := rfl

@[simp] theorem modPrinter_window (s : State) (p : Printer) (f : PrinterRec → PrinterRec) (w' : Window) : (s.modPrinter p f).window w' = s.window w' := rfl
@[simp] theorem modPrinter_shift (s : State) (p : Printer) (f : PrinterRec → PrinterRec) (w' : Window) : (s.modPrinter p f).shift w' = s.shift w' := rfl
@[simp] theorem modPrinter_lineRec (s : State) (p : Printer) (f : PrinterRec → PrinterRec) (p' : Printer) : (s.modPrinter p f).lineRec p' = s.lineRec p' := rfl
@[simp] theorem modPrinter_mag (s : State) (p : Printer) (f : PrinterRec → PrinterRec) (m' : MagId) : (s.modPrinter p f).mag m' = s.mag m' := rfl
@[simp] theorem modPrinter_link (s : State) (p : Printer) (f : PrinterRec → PrinterRec) (l' : Link) : (s.modPrinter p f).link l' = s.link l' := rfl
@[simp] theorem modPrinter_findJob (s : State) (p : Printer) (f : PrinterRec → PrinterRec) (t' : Tag) : (s.modPrinter p f).findJob t' = s.findJob t' := rfl
@[simp] theorem modPrinter_reservations (s : State) (p : Printer) (f : PrinterRec → PrinterRec) : (s.modPrinter p f).reservations = s.reservations := rfl

@[simp] theorem modLine_window (s : State) (p : Printer) (f : LineRec → LineRec) (w' : Window) : (s.modLine p f).window w' = s.window w' := rfl
@[simp] theorem modLine_shift (s : State) (p : Printer) (f : LineRec → LineRec) (w' : Window) : (s.modLine p f).shift w' = s.shift w' := rfl
@[simp] theorem modLine_printer (s : State) (p : Printer) (f : LineRec → LineRec) (p' : Printer) : (s.modLine p f).printer p' = s.printer p' := rfl
@[simp] theorem modLine_mag (s : State) (p : Printer) (f : LineRec → LineRec) (m' : MagId) : (s.modLine p f).mag m' = s.mag m' := rfl
@[simp] theorem modLine_link (s : State) (p : Printer) (f : LineRec → LineRec) (l' : Link) : (s.modLine p f).link l' = s.link l' := rfl
@[simp] theorem modLine_findJob (s : State) (p : Printer) (f : LineRec → LineRec) (t' : Tag) : (s.modLine p f).findJob t' = s.findJob t' := rfl
@[simp] theorem modLine_reservations (s : State) (p : Printer) (f : LineRec → LineRec) : (s.modLine p f).reservations = s.reservations := rfl

@[simp] theorem modMag_window (s : State) (m : MagId) (f : Magazine → Magazine) (w' : Window) : (s.modMag m f).window w' = s.window w' := rfl
@[simp] theorem modMag_shift (s : State) (m : MagId) (f : Magazine → Magazine) (w' : Window) : (s.modMag m f).shift w' = s.shift w' := rfl
@[simp] theorem modMag_printer (s : State) (m : MagId) (f : Magazine → Magazine) (p' : Printer) : (s.modMag m f).printer p' = s.printer p' := rfl
@[simp] theorem modMag_lineRec (s : State) (m : MagId) (f : Magazine → Magazine) (p' : Printer) : (s.modMag m f).lineRec p' = s.lineRec p' := rfl
@[simp] theorem modMag_link (s : State) (m : MagId) (f : Magazine → Magazine) (l' : Link) : (s.modMag m f).link l' = s.link l' := rfl
@[simp] theorem modMag_findJob (s : State) (m : MagId) (f : Magazine → Magazine) (t' : Tag) : (s.modMag m f).findJob t' = s.findJob t' := rfl
@[simp] theorem modMag_reservations (s : State) (m : MagId) (f : Magazine → Magazine) : (s.modMag m f).reservations = s.reservations := rfl

@[simp] theorem modStock_window (s : State) (k : Stock) (f : StockSettings → StockSettings) (w' : Window) : (s.modStock k f).window w' = s.window w' := rfl
@[simp] theorem modStock_shift (s : State) (k : Stock) (f : StockSettings → StockSettings) (w' : Window) : (s.modStock k f).shift w' = s.shift w' := rfl
@[simp] theorem modStock_printer (s : State) (k : Stock) (f : StockSettings → StockSettings) (p' : Printer) : (s.modStock k f).printer p' = s.printer p' := rfl
@[simp] theorem modStock_lineRec (s : State) (k : Stock) (f : StockSettings → StockSettings) (p' : Printer) : (s.modStock k f).lineRec p' = s.lineRec p' := rfl
@[simp] theorem modStock_mag (s : State) (k : Stock) (f : StockSettings → StockSettings) (m' : MagId) : (s.modStock k f).mag m' = s.mag m' := rfl
@[simp] theorem modStock_link (s : State) (k : Stock) (f : StockSettings → StockSettings) (l' : Link) : (s.modStock k f).link l' = s.link l' := rfl
@[simp] theorem modStock_findJob (s : State) (k : Stock) (f : StockSettings → StockSettings) (t' : Tag) : (s.modStock k f).findJob t' = s.findJob t' := rfl
@[simp] theorem modStock_reservations (s : State) (k : Stock) (f : StockSettings → StockSettings) : (s.modStock k f).reservations = s.reservations := rfl

@[simp] theorem modLink_window (s : State) (l : Link) (f : LinkRec → LinkRec) (w' : Window) : (s.modLink l f).window w' = s.window w' := rfl
@[simp] theorem modLink_shift (s : State) (l : Link) (f : LinkRec → LinkRec) (w' : Window) : (s.modLink l f).shift w' = s.shift w' := rfl
@[simp] theorem modLink_printer (s : State) (l : Link) (f : LinkRec → LinkRec) (p' : Printer) : (s.modLink l f).printer p' = s.printer p' := rfl
@[simp] theorem modLink_lineRec (s : State) (l : Link) (f : LinkRec → LinkRec) (p' : Printer) : (s.modLink l f).lineRec p' = s.lineRec p' := rfl
@[simp] theorem modLink_mag (s : State) (l : Link) (f : LinkRec → LinkRec) (m' : MagId) : (s.modLink l f).mag m' = s.mag m' := rfl
@[simp] theorem modLink_findJob (s : State) (l : Link) (f : LinkRec → LinkRec) (t' : Tag) : (s.modLink l f).findJob t' = s.findJob t' := rfl
@[simp] theorem modLink_reservations (s : State) (l : Link) (f : LinkRec → LinkRec) : (s.modLink l f).reservations = s.reservations := rfl

@[simp] theorem modJob_window (s : State) (t : Tag) (f : Job → Job) (w' : Window) : (s.modJob t f).window w' = s.window w' := rfl
@[simp] theorem modJob_shift (s : State) (t : Tag) (f : Job → Job) (w' : Window) : (s.modJob t f).shift w' = s.shift w' := rfl
@[simp] theorem modJob_printer (s : State) (t : Tag) (f : Job → Job) (p' : Printer) : (s.modJob t f).printer p' = s.printer p' := rfl
@[simp] theorem modJob_lineRec (s : State) (t : Tag) (f : Job → Job) (p' : Printer) : (s.modJob t f).lineRec p' = s.lineRec p' := rfl
@[simp] theorem modJob_mag (s : State) (t : Tag) (f : Job → Job) (m' : MagId) : (s.modJob t f).mag m' = s.mag m' := rfl
@[simp] theorem modJob_link (s : State) (t : Tag) (f : Job → Job) (l' : Link) : (s.modJob t f).link l' = s.link l' := rfl

@[simp] theorem dropJob_window (s : State) (t : Tag) (w' : Window) : (s.dropJob t).window w' = s.window w' := rfl
@[simp] theorem dropJob_shift (s : State) (t : Tag) (w' : Window) : (s.dropJob t).shift w' = s.shift w' := rfl
@[simp] theorem dropJob_printer (s : State) (t : Tag) (p' : Printer) : (s.dropJob t).printer p' = s.printer p' := rfl
@[simp] theorem dropJob_lineRec (s : State) (t : Tag) (p' : Printer) : (s.dropJob t).lineRec p' = s.lineRec p' := rfl
@[simp] theorem dropJob_mag (s : State) (t : Tag) (m' : MagId) : (s.dropJob t).mag m' = s.mag m' := rfl
@[simp] theorem dropJob_link (s : State) (t : Tag) (l' : Link) : (s.dropJob t).link l' = s.link l' := rfl

end State

end Sys2Proof.Machine
end

