-- ==== Sys2Proof/Laws/Frames.lean ====
section
/-! SUPPORT. What the shared operations leave as it was: one frame lemma for each, in the form "if the parts it can change
are among `ps`, the state before and after agree outside `ps`". -/

namespace Sys2Proof.Machine

open State

variable {ps qs : List Part} {s t u : State}

/-! ### Agreement outside some parts -/

theorem State.SameAt.refl (s : State) (q : Part) : s.SameAt s q := by cases q <;> simp [SameAt]

theorem State.SameAt.trans {q : Part} (a : s.SameAt t q) (b : t.SameAt u q) : s.SameAt u q := by
  cases q <;> simp_all [SameAt]

theorem State.SameOutside.refl : SameOutside ps s s := ⟨rfl, fun q _ => SameAt.refl s q⟩

theorem State.SameOutside.trans (a : SameOutside ps s t) (b : SameOutside ps t u) : SameOutside ps s u :=
  ⟨b.1.trans a.1, fun q h => (a.2 q h).trans (b.2 q h)⟩

theorem State.SameOutside.mono (a : SameOutside ps s t) (h : ∀ q ∈ ps, q ∈ qs) : SameOutside qs s t :=
  ⟨a.1, fun q hq => a.2 q fun hp => hq (h q hp)⟩

/-- Two states that agree outside two lists of parts agree outside each, when the lists meet nowhere. -/
theorem State.SameOutside.at (a : SameOutside ps s t) {q : Part} (h : q ∉ ps) : s.SameAt t q := a.2 q h

/-! ### The updates -/

theorem modShift_frame {w : Window} {f : ShiftRec → ShiftRec} (h : .shift w ∈ ps) : SameOutside ps s (s.modShift w f) := by
  refine ⟨rfl, fun q hq => ?_⟩
  cases q <;> simp [SameAt, window_modShift]
  case shift w' => (split; (rename_i e; exact absurd (e ▸ h) hq); rfl)
  all_goals (split; (rename_i e; subst e; rfl); rfl)

/-- An update of the notice list alone. -/
theorem modNotices_frame {w : Window} {f : WindowRec → List NoticeRef} (h : .notices w ∈ ps) :
    SameOutside ps s (s.modWindow w fun r => { r with notices := f r }) := by
  refine ⟨rfl, fun q hq => ?_⟩
  cases q <;> simp [SameAt, window_modWindow]
  case notices w' => (split; (rename_i e; exact absurd (e ▸ h) hq); rfl)
  all_goals (split; (rename_i e; subst e; rfl); rfl)

/-- An update of a window's recent issue list and notice list. -/
theorem modLists_frame {w : Window} {f : WindowRec → List NoticeRef} {g : WindowRec → List RecentEntry}
    (h : .notices w ∈ ps) (h' : .recent w ∈ ps) :
    SameOutside ps s (s.modWindow w fun r => { r with recent := g r, notices := f r }) := by
  refine ⟨rfl, fun q hq => ?_⟩
  cases q <;> simp [SameAt, window_modWindow]
  case notices w' => (split; (rename_i e; exact absurd (e ▸ h) hq); rfl)
  case recent w' => (split; (rename_i e; exact absurd (e ▸ h') hq); rfl)
  all_goals (split; (rename_i e; subst e; rfl); rfl)

theorem modPrinter_frame {p : Printer} {f : PrinterRec → PrinterRec} (h : .printer p ∈ ps) :
    SameOutside ps s (s.modPrinter p f) := by
  refine ⟨rfl, fun q hq => ?_⟩
  cases q <;> simp [SameAt, printer_modPrinter]
  case printer p' => intro e; exact absurd (e ▸ h) hq

theorem modLine_frame {p : Printer} {f : LineRec → LineRec} (h : .line p ∈ ps) : SameOutside ps s (s.modLine p f) := by
  refine ⟨rfl, fun q hq => ?_⟩
  cases q <;> simp [SameAt, lineRec_modLine]
  case line p' => intro e; exact absurd (e ▸ h) hq

theorem modMag_frame {m : MagId} {f : Magazine → Magazine} (h : .mag m ∈ ps) : SameOutside ps s (s.modMag m f) := by
  refine ⟨rfl, fun q hq => ?_⟩
  cases q <;> simp [SameAt, mag_modMag]
  case mag m' => intro e; exact absurd (e ▸ h) hq

theorem modStock_frame {k : Stock} {f : StockSettings → StockSettings} (h : .stock k ∈ ps) :
    SameOutside ps s (s.modStock k f) := by
  refine ⟨rfl, fun q hq => ?_⟩
  cases q <;> simp [SameAt, stock_modStock]
  case stock k' => intro e; exact absurd (e ▸ h) hq

theorem modLink_frame {l : Link} {f : LinkRec → LinkRec} (h : .link l ∈ ps) : SameOutside ps s (s.modLink l f) := by
  refine ⟨rfl, fun q hq => ?_⟩
  cases q <;> simp [SameAt, link_modLink]
  case link l' => intro e; exact absurd (e ▸ h) hq

theorem setJobs_frame {js : List Job} (h : .jobs ∈ ps) : SameOutside ps s { s with jobs := js } := by
  refine ⟨rfl, fun q hq => ?_⟩
  cases q <;> first | exact absurd h hq | exact rfl | exact ⟨rfl, rfl⟩ | exact ⟨rfl, rfl, rfl⟩

theorem modJob_frame {g : Tag} {f : Job → Job} (h : .jobs ∈ ps) : SameOutside ps s (s.modJob g f) := setJobs_frame h

theorem dropJob_frame {g : Tag} (h : .jobs ∈ ps) : SameOutside ps s (s.dropJob g) := setJobs_frame h

theorem setExceptions_frame {es : List ExcEntry} (h : .exceptions ∈ ps) : SameOutside ps s { s with exceptions := es } := by
  refine ⟨rfl, fun q hq => ?_⟩
  cases q <;> first | exact absurd h hq | exact rfl | exact ⟨rfl, rfl⟩ | exact ⟨rfl, rfl, rfl⟩

theorem setFaults_frame {l : FaultLog} (h : .faults ∈ ps) : SameOutside ps s { s with faults := l } := by
  refine ⟨rfl, fun q hq => ?_⟩
  cases q <;> first | exact absurd h hq | exact rfl | exact ⟨rfl, rfl⟩ | exact ⟨rfl, rfl, rfl⟩

theorem setTurn_frame {x : Option Turn} (h : .turn ∈ ps) : SameOutside ps s { s with turn := x } := by
  refine ⟨rfl, fun q hq => ?_⟩
  cases q <;> first | exact absurd h hq | exact rfl | exact ⟨rfl, rfl⟩

theorem setList_frame {cs : List CashUp} {ws : List Window} (h : .cashUps ∈ ps) (h' : .waitOrder ∈ ps) :
    SameOutside ps s { s with cashUps := cs, waitOrder := ws } := by
  refine ⟨rfl, fun q hq => ?_⟩
  cases q <;> first | exact absurd h hq | exact absurd h' hq | exact rfl | exact ⟨rfl, rfl⟩ | exact ⟨rfl, rfl, rfl⟩

/-! ### Links (R182, R185) -/

theorem beginReply_frame {l : Link} {e : ReplyEntry} (h : .link l ∈ ps) : SameOutside ps s (s.beginReply l e) :=
  modLink_frame h

theorem beginNotice_frame {w : Window} {n : NoticeRef} (h : .link (.window w) ∈ ps) (h' : .notices w ∈ ps) :
    SameOutside ps s (s.beginNotice w n) :=
  (modNotices_frame (f := fun r => r.notices.drop 1) h').trans (modLink_frame h)

theorem pumpWindow_frame {w : Window} (h : .link (.window w) ∈ ps) (h' : .notices w ∈ ps) :
    SameOutside ps s (s.pumpWindow w) := by
  unfold pumpWindow
  dsimp only
  split
  · split
    · exact beginReply_frame h
    · exact beginNotice_frame h h'
    · split
      · exact beginNotice_frame h h'
      · exact beginReply_frame h
    · exact .refl
  · exact .refl

theorem pumpOffice_frame (h : .link .office ∈ ps) : SameOutside ps s s.pumpOffice := by
  unfold pumpOffice
  dsimp only
  split
  · split
    · exact beginReply_frame h
    · exact .refl
  · exact .refl

theorem pump_frame {l : Link} (h : ∀ q ∈ replyParts l, q ∈ ps) : SameOutside ps s (s.pump l) := by
  cases l with
  | window w => exact pumpWindow_frame (h _ (by simp [replyParts])) (h _ (by simp [replyParts]))
  | office => exact pumpOffice_frame (h _ (by simp [replyParts]))

theorem enqueue_frame {l : Link} {e : ReplyEntry} (h : ∀ q ∈ replyParts l, q ∈ ps) : SameOutside ps s (s.enqueue l e) :=
  (modLink_frame (h _ (by cases l <;> simp [replyParts]))).trans (pump_frame h)

theorem owe_frame {l : Link} {c : Code} (h : ∀ q ∈ replyParts l, q ∈ ps) : SameOutside ps s (s.owe l c) := by
  unfold owe
  split
  · exact enqueue_frame h
  · exact .refl

/-- What a foldl of framed operations leaves. -/
theorem foldl_frame {β : Type} {f : State → β → State} (h : ∀ s b, SameOutside ps s (f s b)) (l : List β) (s : State) :
    SameOutside ps s (l.foldl f s) := by
  induction l generalizing s with
  | nil => exact .refl
  | cons b l ih => exact (h s b).trans (ih (f s b))

theorem pumpWindows_frame (h : ∀ w, .link (.window w) ∈ ps) (h' : ∀ w, .notices w ∈ ps) :
    SameOutside ps s s.pumpWindows :=
  foldl_frame (fun _ w => pumpWindow_frame (h w) (h' w)) allWindows s

/-- Taking a request changes what its `take` changes, and the link. -/
theorem receive_frame {l : Link} {kind : Byte} {take : State → Taken} (h : ∀ q ∈ replyParts l, q ∈ ps)
    (ht : ∀ s, SameOutside ps s (take s).state) : SameOutside ps s (s.receive l kind take) := by
  unfold receive
  split
  · exact .refl
  · split
    · exact owe_frame h
    · split
      · dsimp only
        split
        · exact (ht s).trans (enqueue_frame h)
        · exact ht s
      · exact enqueue_frame h
      · exact enqueue_frame h

/-- A link that listens takes the request at once, and its reply joins the reply order (R182, R183). -/
theorem receive_listens {l : Link} {kind : Byte} {take : State → Taken} (h : s.Listens l) :
    s.receive l kind take =
      match (take s).reply with
      | some r => (take s).state.enqueue l ⟨.held, r⟩
      | none => (take s).state := by
  obtain ⟨h1, h2, h3⟩ := h
  unfold receive
  rw [if_neg (by simp [h1, h2]), if_neg (by simp only [Config.maxHeld]; omega), h1] <;> rfl

@[simp] theorem beginReply_order (l l' : Link) (e : ReplyEntry) : ((s.beginReply l e).link l').order = (s.link l').order := by
  simp only [beginReply, link_modLink]
  split
  · rename_i h; subst h; rfl
  · rfl

@[simp] theorem beginNotice_order (w : Window) (n : NoticeRef) (l' : Link) :
    ((s.beginNotice w n).link l').order = (s.link l').order := by
  simp only [beginNotice, link_modLink, modWindow_link]
  split
  · rename_i h; subst h; rfl
  · rfl

/-- The transmitter takes nothing off a reply order when it begins a message (R182). -/
@[simp] theorem pump_order (l l' : Link) : ((s.pump l).link l').order = (s.link l').order := by
  cases l with
  | window w => simp only [pump, pumpWindow]; split <;> (try split) <;> (try split) <;> simp
  | office => simp only [pump, pumpOffice]; split <;> (try split) <;> simp

/-- A reply joins the end of the reply order (R182). -/
theorem enqueue_order (l : Link) (e : ReplyEntry) : ((s.enqueue l e).link l).order = (s.link l).order ++ [e] := by
  simp [enqueue, link_modLink]

/-- A request taken on a link that listens is answered there. -/
theorem receive_replied {l : Link} {kind : Byte} {take : State → Taken} {r : Reply} (h : s.Listens l)
    (hr : (take s).reply = some r) (ho : ((take s).state.link l).order = (s.link l).order) :
    s.Replied (s.receive l kind take) l r := by
  rw [Replied, receive_listens h, hr]
  simp [enqueue_order, ho]

theorem SameOutside.order {l : Link} (a : SameOutside ps s t) (h : .link l ∉ ps) : (t.link l).order = (s.link l).order := by
  have e : t.link l = s.link l := a.at h
  rw [e]

/-- A request refused on a link that listens. -/
theorem refuses_of_take {c : Instr} {l : Link} {kind : Byte} {code : Code} {take : State → Taken} (h : s.Listens l)
    (e : exec c s = .next (s.receive l kind take)) (r : take s = s.refuse kind code) : s.Refuses c l kind code := by
  refine ⟨_, e, receive_replied h (by rw [r]; rfl) (by rw [r]; rfl), ?_⟩
  rw [receive_listens h, r]
  exact enqueue_frame fun q hq => hq

/-- A request answered on a link that listens: the state its taking left, with the reply in the reply order and what the
transmitter then begins. -/
theorem answers_of_take {c : Instr} {l : Link} {kind : Byte} {take : State → Taken} {r : Reply} (h : s.Listens l)
    (e : exec c s = .next (s.receive l kind take)) (hr : (take s).reply = some r)
    (ho : ((take s).state.link l).order = (s.link l).order) :
    ∃ t, exec c s = .next t ∧ s.Replied t l r ∧ SameOutside (replyParts l) (take s).state t := by
  refine ⟨_, e, receive_replied h hr ho, ?_⟩
  rw [receive_listens h, hr]
  exact enqueue_frame fun q hq => hq

/-! ### Trace entries and fault records (R106, R134) -/

theorem trace_frame {p : Printer} {k : TraceKind} {g : Option Tag} {x : Option Nat} (h : .line p ∈ ps) (h' : .faults ∈ ps) :
    SameOutside ps s (s.trace p k g x) :=
  (modLine_frame h).trans (setFaults_frame h')

theorem printerFault_frame {p : Printer} {k : RecordKind} {f : FaultFields} (h : .faults ∈ ps) :
    SameOutside ps s (s.printerFault p k f) := setFaults_frame h

/-! ### The dispatcher (R74, R75, R79) -/

theorem jobs_mem_dispatch : Part.jobs ∈ dispatchParts := by simp [dispatchParts]
theorem mag_mem_dispatch (m : MagId) : Part.mag m ∈ dispatchParts := by
  obtain ⟨p, k⟩ := m
  cases p <;> cases k <;> decide
theorem printer_mem_dispatch (p : Printer) : Part.printer p ∈ dispatchParts := by cases p <;> decide
theorem line_mem_dispatch (p : Printer) : Part.line p ∈ dispatchParts := by cases p <;> decide

/-- The parts of the dispatcher are among some parts. -/
def Dispatches (ps : List Part) : Prop := ∀ q ∈ dispatchParts, q ∈ ps

theorem Dispatches.jobs (h : Dispatches ps) : .jobs ∈ ps := h _ jobs_mem_dispatch
theorem Dispatches.mag (h : Dispatches ps) (m : MagId) : .mag m ∈ ps := h _ (mag_mem_dispatch m)
theorem Dispatches.printer (h : Dispatches ps) (p : Printer) : .printer p ∈ ps := h _ (printer_mem_dispatch p)
theorem Dispatches.line (h : Dispatches ps) (p : Printer) : .line p ∈ ps := h _ (line_mem_dispatch p)

theorem stage_frame {j : Job} {p : Printer} (h : Dispatches ps) : SameOutside ps s (s.stage j p) :=
  ((modJob_frame h.jobs).trans (modPrinter_frame (h.printer _))).trans (modMag_frame (h.mag _))

theorem dispatch_frame (n : Nat) (h : Dispatches ps) (s : State) : SameOutside ps s (s.dispatch n).2 := by
  induction n generalizing s with
  | zero => exact .refl
  | succ n ih =>
    unfold dispatch
    split
    · exact .refl
    · exact (stage_frame h).trans (ih _)

theorem permit_frame {j : Job} {p : Printer} (h : Dispatches ps) : SameOutside ps s (s.permit j p) :=
  ((modJob_frame h.jobs).trans (modPrinter_frame (h.printer _))).trans (modLine_frame (h.line _))

theorem judge_frame (n : Nat) (ks : List Printer) (h : Dispatches ps) (s : State) : SameOutside ps s (s.judge n ks) := by
  induction n generalizing s ks with
  | zero => exact .refl
  | succ n ih =>
    unfold judge
    split
    · exact .refl
    · exact ((permit_frame h).trans (dispatch_frame 4 h _)).trans (ih _ _)

theorem judgePermission_frame {ks : List Printer} (h : Dispatches ps) : SameOutside ps s (s.judgePermission ks) :=
  judge_frame 4 ks h s

theorem opportunity_frame {ks : List Printer} (h : Dispatches ps) : SameOutside ps s (s.opportunity ks) :=
  (dispatch_frame 4 h s).trans (judge_frame 4 _ h _)

theorem afterLoss_frame {b : Bool} {n : Nat} {p : Printer} (h : Dispatches ps) : SameOutside ps s (s.afterLoss b n p) := by
  unfold afterLoss
  split
  · exact opportunity_frame h
  · exact judgePermission_frame h

theorem giveClear_frame {p : Printer} (h : .line p ∈ ps) : SameOutside ps s (s.giveClear p) := by
  unfold giveClear
  split
  · exact modLine_frame h
  · exact .refl

theorem dropPending_frame {p : Printer} (h : .line p ∈ ps) (h' : .turn ∈ ps) : SameOutside ps s (s.dropPending p) :=
  ((modLine_frame h).trans (setTurn_frame h')).trans (giveClear_frame h)

theorem discardPrint_frame {p : Printer} (h : .line p ∈ ps) (h' : .turn ∈ ps) : SameOutside ps s (s.discardPrint p) := by
  unfold discardPrint
  split
  · exact dropPending_frame h h'
  · exact .refl
  · exact .refl

theorem emptyCurrent_frame {p : Printer} (h : .line p ∈ ps) (h' : .turn ∈ ps) (h'' : .printer p ∈ ps) :
    SameOutside ps s (s.emptyCurrent p) :=
  (modPrinter_frame h'').trans (discardPrint_frame h h')

/-! ### Magazines and staged jobs (R29, R46, R75) -/

theorem returnStaged_frame {p : Printer} (h : Dispatches ps) : SameOutside ps s (s.returnStaged p) := by
  unfold returnStaged
  split
  · exact .refl
  · split
    · exact ((modJob_frame h.jobs).trans (modPrinter_frame (h.printer _))).trans (modMag_frame (h.mag _))
    · exact modPrinter_frame (h.printer _)

theorem moveMag_frame {m : MagId} {st : MagState} (h : Dispatches ps) : SameOutside ps s (s.moveMag m st) := by
  unfold moveMag
  dsimp only
  split
  · refine (modMag_frame (f := fun r => { r with state := st }) (h.mag m)).trans ?_
    unfold returnFrom
    split
    · split
      · exact returnStaged_frame h
      · exact .refl
    · exact .refl
  · exact modMag_frame (h.mag m)

/-! ### Shifts and jobs that leave (R32, R155, R156) -/

theorem notify_frame {w : Window} {a b : RefTarget} {n : Notice} (h : .notices w ∈ ps) : SameOutside ps s (s.notify w a b n) :=
  modNotices_frame (f := fun r => placeNotice r.notices a b n) h

theorem notifyShift_frame {w : Window} {r : Option Overall} (h : .notices w ∈ ps) : SameOutside ps s (s.notifyShift w r) :=
  notify_frame h

theorem fileCashUp_frame {w : Window} {r : CashUp} (h : ∀ q ∈ shiftParts w, q ∈ ps) :
    SameOutside ps s (s.fileCashUp w r) :=
  ((setList_frame (ws := s.waitOrder) (h _ (by simp [shiftParts])) (h _ (by simp [shiftParts]))).trans
    (modShift_frame (h _ (by simp [shiftParts])))).trans (notifyShift_frame (h _ (by simp [shiftParts])))

theorem compute_frame {w : Window} (h : ∀ q ∈ shiftParts w, q ∈ ps) : SameOutside ps s (s.compute w) := by
  unfold compute
  dsimp only
  split
  · exact fileCashUp_frame h
  · exact ((setList_frame (cs := s.cashUps) (h _ (by simp [shiftParts])) (h _ (by simp [shiftParts]))).trans
      (modShift_frame (h _ (by simp [shiftParts])))).trans (notifyShift_frame (h _ (by simp [shiftParts])))

theorem closingEnd_frame {w : Window} (h : ∀ q ∈ shiftParts w, q ∈ ps) : SameOutside ps s (s.closingEnd w) := by
  unfold closingEnd
  dsimp only
  split
  · split
    · exact compute_frame h
    · exact (modShift_frame (h _ (by simp [shiftParts]))).trans (notifyShift_frame (h _ (by simp [shiftParts])))
  · exact .refl

theorem leaveTable_frame {j : Job} (h : .jobs ∈ ps) (h' : ∀ q ∈ shiftParts j.tag.window, q ∈ ps) :
    SameOutside ps s (s.leaveTable j) :=
  ((dropJob_frame h).trans (modShift_frame (h' _ (by simp [shiftParts])))).trans (closingEnd_frame h')

theorem leaveSilent_frame {j : Job} (h : .jobs ∈ ps) (h' : ∀ q ∈ shiftParts j.tag.window, q ∈ ps) :
    SameOutside ps s (s.leaveSilent j) :=
  (leaveTable_frame h h').trans
    (modNotices_frame (f := fun r => dropRef r.notices (.job j.tag.job)) (h' _ (by simp [shiftParts])))

theorem leaveCarried_frame {j : Job} {k : JobNoticeKind} {x : Option Nat} (h : .jobs ∈ ps)
    (h' : ∀ q ∈ shiftParts j.tag.window, q ∈ ps) : SameOutside ps s (s.leaveCarried j k x) :=
  (leaveTable_frame h h').trans (notify_frame (h' _ (by simp [shiftParts])))

/-- A recent issue appended changes the recent issue list and the notice list. -/
theorem addRecent_frame {w : Window} {e : RecentEntry} (h : .notices w ∈ ps) (h' : .recent w ∈ ps) :
    SameOutside ps s (s.modWindow w fun r => r.addRecent e) := by
  refine ⟨rfl, fun q hq => ?_⟩
  cases q <;> simp [SameAt, window_modWindow]
  case notices w' => (split; (rename_i e; exact absurd (e ▸ h) hq); rfl)
  case recent w' => (split; (rename_i e; exact absurd (e ▸ h') hq); rfl)
  all_goals (split; (rename_i e; subst e; unfold WindowRec.addRecent; split <;> rfl); rfl)

theorem leaveIssued_frame {j : Job} {k : JobNoticeKind} (h : ∀ q ∈ leaveParts j.tag.window, q ∈ ps) :
    SameOutside ps s (s.leaveIssued j k) :=
  ((leaveTable_frame (h _ (by simp [leaveParts])) fun q hq => h q (by simp [leaveParts, hq])).trans
    (addRecent_frame (h _ (by simp [leaveParts, shiftParts])) (h _ (by simp [leaveParts])))).trans
    (notify_frame (h _ (by simp [leaveParts, shiftParts])))

/-! ### Outcomes of prints (R110 to R117) -/

/-- The parts the end of a turn can change are among some parts. -/
def Turns (ps : List Part) : Prop := ∀ q ∈ turnParts, q ∈ ps

theorem Turns.dispatches (h : Turns ps) : Dispatches ps := fun q hq => h q (by simp [turnParts, hq])
theorem Turns.faults (h : Turns ps) : .faults ∈ ps := h _ (by simp [turnParts])
theorem Turns.turn (h : Turns ps) : .turn ∈ ps := h _ (by simp [turnParts])
theorem Turns.link (h : Turns ps) (w : Window) : .link (.window w) ∈ ps :=
  h _ (by cases w <;> simp [turnParts, allWindows, replyParts])
theorem Turns.notices (h : Turns ps) (w : Window) : .notices w ∈ ps :=
  h _ (by cases w <;> simp [turnParts, allWindows, replyParts])

theorem Turns.empty (h : Turns ps) {p : Printer} : SameOutside ps s (s.emptyCurrent p) :=
  emptyCurrent_frame (h.dispatches.line p) h.turn (h.dispatches.printer p)

/-- The parts the failure of a job of a window can change are among some parts. -/
def Fails (ps : List Part) (w : Window) : Prop := ∀ q ∈ failParts w, q ∈ ps

theorem Fails.turns (h : Fails ps w) : Turns ps := fun q hq => h q (by simp [failParts, hq])
theorem Fails.shifts (h : Fails ps w) : ∀ q ∈ shiftParts w, q ∈ ps := fun q hq => h q (by simp [failParts, hq])
theorem Fails.exceptions (h : Fails ps w) : .exceptions ∈ ps := h _ (by simp [failParts])
theorem Fails.stock (h : Fails ps w) (k : Stock) : .stock k ∈ ps := h _ (by cases k <;> simp [failParts])

/-- The parts the outcomes of jobs of any window can change are among some parts. -/
def Settles (ps : List Part) : Prop := ∀ q ∈ lineParts, q ∈ ps

theorem Settles.leaves (h : Settles ps) (w : Window) : ∀ q ∈ leaveParts w, q ∈ ps := fun q hq =>
  h q (List.mem_flatMap.mpr ⟨w, by cases w <;> decide, List.mem_append.mpr (.inl hq)⟩)
theorem Settles.fails (h : Settles ps) (w : Window) : Fails ps w := fun q hq =>
  h q (List.mem_flatMap.mpr ⟨w, by cases w <;> decide, List.mem_append.mpr (.inr hq)⟩)
theorem Settles.turns (h : Settles ps) : Turns ps := (h.fails .w1).turns

/-- The job found for a tag has that tag. -/
theorem findJob_tag {g : Tag} {j : Job} (h : s.findJob g = some j) : j.tag = g := by
  simpa using List.find?_some h

/-- The job an event matches has the event's tag (R43). -/
theorem matching_tag {p : Printer} {g : Tag} {l : List JobState} {j : Job} (h : s.matching p g l = some j) : j.tag = g :=
  findJob_tag (Option.filter_eq_some_iff.mp h).1

theorem failFeeding_frame {j : Job} {p : Printer} (h : Turns ps) : SameOutside ps s (s.failFeeding j p) := by
  have d := h.dispatches
  unfold failFeeding
  dsimp only
  split
  · exact (((modJob_frame d.jobs).trans (modMag_frame (d.mag _))).trans (moveMag_frame d)).trans h.empty
  · exact ((modJob_frame d.jobs).trans (modMag_frame (d.mag _))).trans h.empty

theorem failPrinting_frame {j : Job} {p : Printer} {c : LossCause} (h : Fails ps j.tag.window) :
    SameOutside ps s (s.failPrinting j p c) := by
  have d := h.turns.dispatches
  unfold failPrinting
  dsimp only
  have hs : SameOutside ps s (s.spoilBlank j c.entryReason) :=
    (setExceptions_frame h.exceptions).trans (modStock_frame (h.stock _))
  split
  · exact ((hs.trans (modJob_frame d.jobs)).trans (modJob_frame d.jobs)).trans h.turns.empty
  · exact (hs.trans (leaveCarried_frame d.jobs h.shifts)).trans h.turns.empty

theorem failDelivering_frame {j : Job} {p : Printer} {c : LossCause} (h : Turns ps) (h' : .exceptions ∈ ps) :
    SameOutside ps s (s.failDelivering j p c) :=
  (((setExceptions_frame h').trans (modJob_frame h.dispatches.jobs)).trans h.empty).trans (notify_frame (h.notices _))

theorem loseCurrent_frame {j : Job} {p : Printer} {c : LossCause} (h : Fails ps j.tag.window) :
    SameOutside ps s (s.loseCurrent j p c) := by
  unfold loseCurrent
  split
  · exact failFeeding_frame h.turns
  · exact failPrinting_frame h
  · exact failDelivering_frame h.turns h.exceptions
  all_goals exact .refl

theorem failJob_frame {j : Job} {p : Printer} {c : LossCause} (h : Fails ps j.tag.window) :
    SameOutside ps s (s.failJob j p c) := by
  have d := h.turns.dispatches
  unfold failJob
  split
  · exact (returnStaged_frame d).trans (opportunity_frame d)
  · exact (loseCurrent_frame h).trans (afterLoss_frame d)
  · exact (loseCurrent_frame h).trans (afterLoss_frame d)
  · exact (loseCurrent_frame h).trans (afterLoss_frame d)
  all_goals exact .refl

theorem auditReload_frame {m : MagId} (h : .stock m.stock ∈ ps) (h' : .mag m ∈ ps) : SameOutside ps s (s.auditReload m) :=
  (modStock_frame h).trans (modMag_frame h')

theorem auditDraw_frame {m : MagId} (h : .stock m.stock ∈ ps) (h' : .mag m ∈ ps) : SameOutside ps s (s.auditDraw m) := by
  unfold auditDraw
  dsimp only
  split
  · split
    · exact auditReload_frame h h'
    · exact modMag_frame h'
  · exact .refl

theorem exhaust_frame {m : MagId} (h : Dispatches ps) : SameOutside ps s (s.exhaust m) := by
  unfold exhaust
  split
  · exact moveMag_frame h
  · exact .refl

theorem drawBlank_frame {m : MagId} (h : Dispatches ps) : SameOutside ps s (s.drawBlank m) := modMag_frame (h.mag m)

theorem requeue_frame {g : Tag} (h : Dispatches ps) : SameOutside ps s (s.requeue g) := modJob_frame h.jobs

theorem startTimer_frame {p : Printer} {g : Stage} {n : Nat} (h : Dispatches ps) : SameOutside ps s (s.startTimer p g n) :=
  modPrinter_frame (h.printer p)

theorem noteFed_frame {p : Printer} {k : Stock} (h : Dispatches ps) : SameOutside ps s (s.noteFed p k) :=
  modPrinter_frame (h.printer p)

theorem countSpoiled_frame {k : Stock} (h : .stock k ∈ ps) : SameOutside ps s (s.countSpoiled k) := modStock_frame h

theorem addEntry_frame {e : ExcEntry} (h : .exceptions ∈ ps) : SameOutside ps s (s.addEntry e) := setExceptions_frame h

theorem fedAgrees_frame {j : Job} {p : Printer} {c : Current} {x : Option Nat} (d : Dispatches ps)
    (h : .stock j.stock ∈ ps) : SameOutside ps s (s.fedAgrees j p c x) := by
  unfold fedAgrees
  dsimp only
  refine .trans ?_ (opportunity_frame d)
  refine .trans ?_ (startTimer_frame d)
  refine .trans ?_ (noteFed_frame d)
  refine .trans ?_ (modJob_frame d.jobs)
  refine .trans ?_ (exhaust_frame d)
  refine .trans ?_ (auditDraw_frame h (d.mag _))
  split
  · exact (drawBlank_frame d).trans (modMag_frame (d.mag _))
  · exact drawBlank_frame d

theorem fedDisagrees_frame {j : Job} {p : Printer} {c : Current} {x : Option Nat} (h : Turns ps) (h' : .exceptions ∈ ps)
    (h'' : .stock j.stock ∈ ps) : SameOutside ps s (s.fedDisagrees j p c x) := by
  have d := h.dispatches
  unfold fedDisagrees
  dsimp only
  refine .trans ?_ (opportunity_frame d)
  refine .trans ?_ h.empty
  refine .trans ?_ (requeue_frame d)
  refine .trans ?_ (noteFed_frame d)
  refine .trans ?_ (printerFault_frame h.faults)
  refine .trans ?_ (moveMag_frame d)
  refine .trans ?_ (countSpoiled_frame h'')
  exact (drawBlank_frame d).trans (addEntry_frame h')

theorem takeFed_frame {p : Printer} {g : Tag} {x : Option Nat} (h : Turns ps) (h' : .exceptions ∈ ps)
    (h'' : ∀ k, .stock k ∈ ps) : SameOutside ps s (s.takeFed p g x) := by
  unfold takeFed
  split
  · split
    · exact fedAgrees_frame h.dispatches (h'' _)
    · exact fedDisagrees_frame h h' (h'' _)
  · exact .refl

theorem takePrinted_frame {p : Printer} {g : Tag} (h : Dispatches ps) : SameOutside ps s (s.takePrinted p g) := by
  unfold takePrinted
  split
  · exact (modJob_frame h.jobs).trans (modPrinter_frame (h.printer _))
  · exact .refl

theorem takeEjected_frame {p : Printer} {g : Tag} (h : Turns ps) (h' : ∀ q ∈ leaveParts g.window, q ∈ ps) :
    SameOutside ps s (s.takeEjected p g) := by
  unfold takeEjected
  split
  · rename_i j hj
    rw [← matching_tag hj] at h'
    exact (((modShift_frame (h' _ (by simp [leaveParts, shiftParts]))).trans (leaveIssued_frame h')).trans h.empty).trans
      (judgePermission_frame h.dispatches)
  · exact .refl

theorem takeFault_frame {p : Printer} {k : FaultKind} {g : Option Tag} (h : Turns ps) (h' : ∀ x ∈ g, Fails ps x.window) :
    SameOutside ps s (s.takeFault p k g) := by
  unfold takeFault
  split
  · exact printerFault_frame h.faults
  · dsimp only
    split
    · rename_i x _ j hj
      exact (printerFault_frame h.faults).trans (failJob_frame (matching_tag hj ▸ h' x rfl))
    · exact printerFault_frame h.faults

/-- A magazine that leaves ACTIVE changes at most what a dispatch opportunity can change (R46). -/
theorem leaveActive_frame {m : MagId} {st : MagState} (h : Dispatches ps) : SameOutside ps s (s.leaveActive m st) := by
  unfold leaveActive
  dsimp only
  split
  · exact (moveMag_frame h).trans (opportunity_frame h)
  · exact moveMag_frame h

theorem takeMagOpen_frame {p : Printer} {k : Stock} (h : Turns ps) : SameOutside ps s (s.takeMagOpen p k) := by
  have d := h.dispatches
  unfold takeMagOpen
  dsimp only
  split
  · exact (printerFault_frame h.faults).trans (leaveActive_frame d)
  · exact moveMag_frame d
  · exact moveMag_frame d
  all_goals exact .refl

theorem takeMagClosed_frame {p : Printer} {k : Stock} {x : Option Nat} (h : Turns ps) :
    SameOutside ps s (s.takeMagClosed p k x) := by
  have d := h.dispatches
  have one : SameOutside ps s (s.sightingAgrees ⟨p, k⟩) := by
    unfold sightingAgrees
    dsimp only
    split
    · exact (modMag_frame (d.mag _)).trans (opportunity_frame d)
    · exact modMag_frame (d.mag _)
  have two : SameOutside ps s (s.sightingDisagrees ⟨p, k⟩ x) := by
    unfold sightingDisagrees
    dsimp only
    split
    · exact (printerFault_frame h.faults).trans (leaveActive_frame d)
    · exact (printerFault_frame h.faults).trans (moveMag_frame d)
  unfold takeMagClosed
  dsimp only
  split
  · exact .refl
  · exact .refl
  all_goals (split; exact one; exact two)

/-- A taken event changes at most what an outcome can change, and the printer's trace ring (R100). -/
theorem takeEvent_frame {p : Printer} {e : Event} (h : Settles ps) : SameOutside ps s (s.takeEvent p e) := by
  have t := h.turns
  have l := t.dispatches.line p
  cases e with
  | fed g x =>
    exact (trace_frame l t.faults).trans (takeFed_frame t (h.fails g.window).exceptions (h.fails g.window).stock)
  | printed g => exact (trace_frame l t.faults).trans (takePrinted_frame t.dispatches)
  | ejected g => exact (trace_frame l t.faults).trans (takeEjected_frame t (h.leaves _))
  | fault k g => exact (trace_frame l t.faults).trans (takeFault_frame t fun x _ => h.fails x.window)
  | magOpen k => exact (trace_frame l t.faults).trans (takeMagOpen_frame t)
  | magClosed k x => exact (trace_frame l t.faults).trans (takeMagClosed_frame t)

theorem takeEvents_frame {p : Printer} (h : Settles ps) (es : List (EventNo × Event)) (s : State) :
    SameOutside ps s (s.takeEvents p es) := by
  induction es generalizing s with
  | nil => exact .refl
  | cons e es ih =>
    obtain ⟨n, e⟩ := e
    unfold takeEvents
    split
    · exact ((modLine_frame (h.turns.dispatches.line p)).trans (takeEvent_frame h)).trans (ih _)
    · exact ih s

theorem takeReplyEvents_frame {p : Printer} {r : Status} (h : Settles ps) : SameOutside ps s (s.takeReplyEvents p r) := by
  unfold takeReplyEvents
  split
  · exact takeEvents_frame h _ _
  · split
    · exact modLine_frame (h.turns.dispatches.line p)
    · exact ((modLine_frame (h.turns.dispatches.line p)).trans (takeEvent_frame h)).trans (takeEvents_frame h _ _)

theorem takeEmptyShown_frame {m : MagId} (h : Turns ps) : SameOutside ps s (s.takeEmptyShown m) := by
  have d := h.dispatches
  unfold takeEmptyShown
  split
  · exact ((trace_frame (d.line _) h.faults).trans (printerFault_frame h.faults)).trans (leaveActive_frame d)
  · exact .refl

theorem judgeMarks_frame {p : Printer} {a c : Bool} {l : Option FaultKind} (d : Dispatches ps) :
    SameOutside ps s (s.judgeMarks p a l c) := by
  unfold judgeMarks movePrinter
  dsimp only
  split
  · exact ((modPrinter_frame (d.printer _)).trans (returnStaged_frame d)).trans (opportunity_frame d)
  · split
    · exact (modPrinter_frame (d.printer _)).trans (opportunity_frame d)
    · exact modPrinter_frame (d.printer _)

theorem noResponse_frame {p : Printer} (h : Turns ps) (h' : ∀ c ∈ (s.printer p).current, Fails ps c.tag.window) :
    SameOutside ps s (s.noResponse p) := by
  have d := h.dispatches
  have off : ∀ u : State, SameOutside ps u (u.goOffline p) ∧
      ((u.goOffline p).printer p).current = (u.printer p).current := by
    intro u
    unfold goOffline
    split
    · refine ⟨((modPrinter_frame (d.printer _)).trans (returnStaged_frame d)).trans (setFaults_frame h.faults), ?_⟩
      unfold returnStaged
      split
      · simp [State.printer, modPrinter]
      · split <;> simp [State.printer, modPrinter, unstage, requeue, modJob, modMag]
    · exact ⟨.refl, rfl⟩
  unfold noResponse
  dsimp only
  refine SameOutside.trans ?_ (afterLoss_frame d)
  refine SameOutside.trans ?_ (printerFault_frame h.faults)
  have one := ((trace_frame (s := s) (k := .noResponse) (g := (s.printer p).current.map (·.tag)) (x := none) (d.line p)
    h.faults).trans (modLine_frame (f := fun r => { r with synced := false, lastMarks := none }) (d.line p))).trans (off _).1
  split
  · rename_i j hj
    obtain ⟨c, hc, hj⟩ := Option.bind_eq_some_iff.mp hj
    rw [(off _).2] at hc
    exact one.trans (loseCurrent_frame (findJob_tag hj ▸ h' c hc))
  · exact one

theorem endTurn_frame (h : Turns ps) : SameOutside ps s s.endTurn := by
  refine SameOutside.trans ?_ (pumpWindows_frame h.link h.notices)
  refine ⟨rfl, fun q hq => ?_⟩
  cases q <;> first | exact absurd h.turn hq | exact rfl | exact ⟨rfl, rfl⟩

/-- A good reply changes what its events change, and what the end of a turn can (R101). -/
theorem takeReply_frame {v : Turn} {raw : StatusReply} {r : Status} (h : Turns ps)
    (h' : ∀ u : State, SameOutside ps u (u.takeReplyEvents v.printer r)) : SameOutside ps s (s.takeReply v raw r) := by
  have d := h.dispatches
  have empties : ∀ (u : State) (m : MagId) (b : Bool), SameOutside ps u (u.judgeEmpty m b) := by
    intro u m b
    unfold judgeEmpty
    split
    · exact takeEmptyShown_frame h
    · exact .refl
  have ans : ∀ u : State, SameOutside ps u (u.answered v.printer) := by
    intro u
    unfold answered
    split
    · exact (dropPending_frame (d.line _) h.turn).trans (judgePermission_frame d)
    · exact .refl
  unfold takeReply
  dsimp only
  exact ((((((modLine_frame (d.line _)).trans (h' _)).trans (empties _ _ _)).trans
    (empties _ _ _)).trans (judgeMarks_frame d)).trans (ans _)).trans (endTurn_frame h)

/-- A turn missed changes what the end of a turn can, and what the failure of the current job can (R103, R104). -/
theorem takeMiss_frame {v : Turn} {c : MissCause} (h : Turns ps)
    (h' : ∀ x ∈ (s.printer v.printer).current, Fails ps x.tag.window) : SameOutside ps s (s.takeMiss v c) := by
  have d := h.dispatches
  unfold takeMiss
  dsimp only
  refine SameOutside.trans ?_ (endTurn_frame h)
  split
  · exact ((modLine_frame (d.line _)).trans (trace_frame (d.line _) h.faults)).trans (noResponse_frame h h')
  · exact (modLine_frame (d.line _)).trans (trace_frame (d.line _) h.faults)

theorem expireStage_frame {p : Printer} {g : Stage} {j : Job} (h : Fails ps j.tag.window) :
    SameOutside ps s (s.expireStage p g j) := by
  have t := h.turns
  unfold expireStage
  dsimp only
  exact (((trace_frame (t.dispatches.line _) t.faults).trans (printerFault_frame t.faults)).trans
    (failJob_frame h)).trans (pumpWindows_frame t.link t.notices)

end Sys2Proof.Machine
end

