-- ==== Sys2Proof/Laws/PerInstr.lean ====
section
/-! SUPPORT. Statements made instruction by instruction: the family `RequestLink`, one lemma for each command. -/

namespace Sys2Proof.Laws.RequestLink

open Sys2Proof.Machine

/-- The link and the kind code the machine receives a command on are those of the message that carries it; a command that
is no request has neither (R181). -/
def Statement (i : Instr) : Prop := (encodeRequest i).map (fun x => (x.1, x.2.1)) = requestKind i

theorem issue (w : Window) (r : IssueReq) : Statement (.issue w r) := rfl
theorem cancel (w : Window) (job : JobNo) : Statement (.cancel w job) := rfl
theorem queryJob (w : Window) (job : JobNo) : Statement (.queryJob w job) := rfl
theorem void (w : Window) (job : JobNo) : Statement (.void w job) := rfl
theorem clearPrinter (w : Window) (printer : Byte) : Statement (.clearPrinter w printer) := rfl
theorem openShift (w : Window) (clerk : Half) (float : Three) : Statement (.openShift w clerk float) := rfl
theorem closeShift (w : Window) : Statement (.closeShift w) := rfl
theorem declare (w : Window) (tender : Byte) (amount : Four) : Statement (.declare w tender amount) := rfl
theorem declareEnd (w : Window) : Statement (.declareEnd w) := rfl
theorem windowStatus (w : Window) : Statement (.windowStatus w) := rfl
theorem officeStatus (sect index : Byte) : Statement (.officeStatus sect index) := rfl
theorem setClock (day minute : Half) : Statement (.setClock day minute) := rfl
theorem restart : Statement .restart := rfl
theorem coldStart : Statement .coldStart := rfl
theorem select (list param index mode : Byte) : Statement (.select list param index mode) := rfl
theorem read : Statement .read := rfl
theorem writeDiscount (page entry : Byte) (rate : Half) (mode : Byte) (minimum : Three) (restricted : Byte) :
    Statement (.writeDiscount page entry rate mode minimum restricted) := rfl
theorem switchPage : Statement .switchPage := rfl
theorem flushWindow (window : Byte) : Statement (.flushWindow window) := rfl
theorem resolve (window : Byte) (job : JobNo) (resolution : Byte) : Statement (.resolve window job resolution) := rfl
theorem resolveWindow (window : Byte) : Statement (.resolveWindow window) := rfl
theorem setVoidPeriod (minutes : Byte) : Statement (.setVoidPeriod minutes) := rfl
theorem loadPack (mag : Byte) (first : Three) (count : Half) : Statement (.loadPack mag first count) := rfl
theorem unload (mag : Byte) : Statement (.unload mag) := rfl
theorem hold (mag : Byte) : Statement (.hold mag) := rfl
theorem reinstate (mag : Byte) : Statement (.reinstate mag) := rfl
theorem setStock (stock : Byte) (reload threshold : Half) : Statement (.setStock stock reload threshold) := rfl
theorem setPrinter (printer base multiplier changeover : Byte) :
    Statement (.setPrinter printer base multiplier changeover) := rfl
theorem setRoute (window home alternate : Byte) : Statement (.setRoute window home alternate) := rfl
theorem withdraw (printer : Byte) : Statement (.withdraw printer) := rfl
theorem returnPrinter (printer : Byte) : Statement (.returnPrinter printer) := rfl
theorem flushPrinter (printer : Byte) : Statement (.flushPrinter printer) := rfl
theorem setLead (lead : Byte) : Statement (.setLead lead) := rfl
theorem acknowledge (mode : Byte) (number : RecordNo) : Statement (.acknowledge mode number) := rfl
theorem clearFlags (window : Byte) (flags : Half) : Statement (.clearFlags window flags) := rfl
theorem setFlags (window : Byte) (flags : Half) : Statement (.setFlags window flags) := rfl
theorem toggleFlags (window : Byte) (flags : Half) : Statement (.toggleFlags window flags) := rfl
theorem testFlags (window : Byte) (flags : Half) : Statement (.testFlags window flags) := rfl
theorem setLimit (window : Byte) (limit : Three) : Statement (.setLimit window limit) := rfl
theorem forceClose (window : Byte) : Statement (.forceClose window) := rfl
theorem latch (windows part : Byte) : Statement (.latch windows part) := rfl
theorem readLatched (window : Byte) : Statement (.readLatched window) := rfl
theorem setTolerance (tender : Byte) (low high : Four) (required : Byte) :
    Statement (.setTolerance tender low high required) := rfl
theorem collect (mode : Byte) (key : Option (Byte × ShiftNo)) : Statement (.collect mode key) := by cases key <;> rfl
theorem release (window : Byte) (shift : ShiftNo) : Statement (.release window shift) := rfl
theorem unknownKind (l : Link) (kind : Byte) : Statement (.unknownKind l kind) := rfl
theorem line (l : Link) (cause : LineCause) : Statement (.line l cause) := rfl
theorem overrun (l : Link) : Statement (.overrun l) := rfl
theorem gapDiscard (l : Link) : Statement (.gapDiscard l) := rfl
theorem requestDuringStart (l : Link) (kind : Byte) : Statement (.requestDuringStart l kind) := rfl
theorem transmitComplete (l : Link) : Statement (.transmitComplete l) := rfl
theorem linkReadyAsserted (l : Link) : Statement (.linkReadyAsserted l) := rfl
theorem poll : Statement .poll := rfl
theorem print : Statement .print := rfl
theorem clear : Statement .clear := rfl
theorem goodReply (r : StatusReply) : Statement (.goodReply r) := rfl
theorem miss (cause : MissCause) : Statement (.miss cause) := rfl
theorem auditCounterZero (m : MagId) : Statement (.auditCounterZero m) := rfl
theorem stageExpiry (p : Printer) : Statement (.stageExpiry p) := rfl
theorem pacingWaitExpiry (p : Printer) : Statement (.pacingWaitExpiry p) := rfl
theorem clockAdvance : Statement .clockAdvance := rfl
theorem powerOn (straps : Straps) : Statement (.powerOn straps) := rfl
theorem mainSupplyLoss : Statement .mainSupplyLoss := rfl
theorem retentionSupplyLow : Statement .retentionSupplyLow := rfl
theorem startComplete : Statement .startComplete := rfl
theorem readyInputFalls (l : Link) : Statement (.readyInputFalls l) := rfl

end Sys2Proof.Laws.RequestLink
end

