-- ==== Sys2Proof/Laws/Shifts.lean ====
section
/-! SUPPORT. What the end of a CLOSING wait and a job's departure do to the shift, said once (R32, R155, R156). -/

namespace Sys2Proof.Machine

/-- A notice placed stands on the list under its new reference (R38, R40). -/
theorem mem_placeNotice (l : List NoticeRef) (old new : RefTarget) (n : Notice) : ⟨new, n⟩ ∈ placeNotice l old new n := by
  unfold placeNotice
  split
  · rename_i h
    obtain ⟨r, hr, ht⟩ := List.any_eq_true.mp h
    exact List.mem_map.mpr ⟨r, hr, by simp [of_decide_eq_true ht]⟩
  · simp

/-- A window that is notified has the notice due. -/
theorem State.notify_out (s : State) (w : Window) (old new : RefTarget) (n : Notice) : (s.notify w old new n).NoticeOut w new n :=
  .inl (by cases w <;> exact mem_placeNotice _ _ _ _)

/-- A compute files the cash-up or makes the shift wait, by the room in the list (R156, R174). -/
theorem State.compute_computed (s : State) (w : Window) : s.Computed (s.compute w) w (s.shift w) := by
  have room : ∀ (l : List CashUp) (r : CashUp), listRoom l r = true ↔ roomFor l r := by
    intro l r
    simp [listRoom, roomFor, CashUp.isOf, Config.maxCashUps, Classical.or_iff_not_imp_left]
  unfold State.compute
  dsimp only
  by_cases h : s.waitOrder = [] ∧ roomFor s.cashUps (cashUpOf w (s.shift w) s.tolerance)
  · rw [if_pos (by simp [(room _ _).mpr h.2, h.1])]
    refine ⟨fun _ => ⟨?_, rfl, rfl⟩, fun n => absurd h n, ?_⟩
    · cases w <;> rfl
    · cases w <;> exact State.notify_out _ _ _ _ _
  · rw [if_neg (by simpa [room, and_comm] using h)]
    refine ⟨fun p => absurd p h, fun _ => ⟨?_, rfl, rfl⟩, ?_⟩
    · cases w <;> rfl
    · cases w <;> exact State.notify_out _ _ _ _ _

/-- The end of a CLOSING wait, and nothing where the shift is in another state or still has jobs (R155). -/
theorem State.closingEnd_ended (s : State) (w : Window) :
    ((s.shift w).state = .closing ∧ (s.shift w).active = 0 → s.ClosingEnded (s.closingEnd w) w (s.shift w)) ∧
      (¬((s.shift w).state = .closing ∧ (s.shift w).active = 0) → s.closingEnd w = s) := by
  refine ⟨fun h => ?_, fun h => if_neg h⟩
  have e : s.closingEnd w = if (s.shift w).ended then s.compute w
      else (s.modShift w fun h => { h with state := .declaring }).notifyShift w none := if_pos h
  rw [e]
  refine ⟨fun he => by rw [if_pos he]; exact State.compute_computed s w, fun he => ?_⟩
  rw [if_neg (by simp [he])]
  refine ⟨by cases w <;> rfl, rfl, rfl, ?_⟩
  rw [← he]
  cases w <;> exact State.notify_out _ _ _ _ _

/-- A job that leaves the table: its shift counts one job less, and may end its CLOSING wait (R32, R155). -/
theorem State.leaveTable_left (s : State) (j : Job) : s.JobsLeft (s.leaveTable j) j.tag.window (s.shift j.tag.window) 1 := by
  obtain ⟨w, hw⟩ : ∃ w, w = j.tag.window := ⟨_, rfl⟩
  let u := (s.dropJob j.tag).modShift j.tag.window fun h => { h with active := h.active - 1 }
  have hu : u.shift j.tag.window = { s.shift j.tag.window with active := (s.shift j.tag.window).active - 1 } := by
    rw [← hw]; simp only [u, ← hw]; cases w <;> rfl
  have h := State.closingEnd_ended u j.tag.window
  rw [hu] at h
  refine ⟨fun e => h.1 e.2, fun e => ?_⟩
  have : s.leaveTable j = u := h.2 fun x => e ⟨Nat.one_pos, x⟩
  rw [this]
  exact ⟨hu, rfl, rfl⟩

end Sys2Proof.Machine
end

