-- ==== Sys2Proof/Machine/LinkFrames.lean ====
section
/-! DEFINITION. The messages the part sends on its links (R180, R184, R188, R192 to R194): the bytes of every reply and
notice. The manual fixes the widths and codes (R184, R194) and, where it gives no layout, the order of the fields by the
owning rule; what it leaves open is listed in notes/assumptions/16. -/

namespace Sys2Proof.Machine

/-! ### Widths, optional fields, stamps, tags (R184) -/

def num1 (n : Nat) : List Byte := [BitVec.ofNat 8 n]
def num2 (n : Nat) : List Byte := bytes2 (BitVec.ofNat 16 n)
def num3 (n : Nat) : List Byte := bytes3 (BitVec.ofNat 24 n)
def num4 (n : Nat) : List Byte := bytes4 (BitVec.ofNat 32 n)
/-- A signed amount, in two's complement. -/
def signed4 (v : Int) : List Byte := bytes4 (BitVec.ofInt 32 v)

/-- An absent field of `n` bytes: every bit set. -/
def absent (n : Nat) : List Byte := List.replicate n 255

/-- An optional field. -/
def opt (n : Nat) (f : α → List Byte) : Option α → List Byte
  | some x => f x
  | none => absent n

/-- An optional signed amount: the most negative value for absent. -/
def optSigned : Option Int → List Byte
  | some v => signed4 v
  | none => bytes4 (BitVec.intMin 32)

/-- A mark on its own. -/
def mark (b : Bool) : List Byte := [markCode b]

/-- A set of up to eight marks, bit 0 for the first. -/
def markSet (bs : List Bool) : List Byte := [bs.foldr (fun b v => 2 * v + markCode b) 0]

def Stamp.bytes (c : Stamp) : List Byte :=
  bytes2 c.day ++ bytes2 (BitVec.ofNat 16 c.minute ||| if c.notSet then 0x8000 else 0)

def Tag.bytes (t : Tag) : List Byte := [windowCode t.window, t.job]

def CondSet.bytes (c : CondSet) : List Byte := markSet [c.rnd, c.min, c.big, c.zero, c.ovf, c.sat]

def flagBytes (f : BitVec 9) : List Byte := bytes2 (f.setWidth 16)

/-! ### Codes (R181, R188, R191 to R194, section 10.5) -/

def Code.byte : Code → Byte
  | .badForm => 1 | .badValue => 2 | .line => 3 | .overrun => 4 | .notPermitted => 5 | .shiftState => 6
  | .queueFull => 7 | .windowFull => 8 | .overflow => 9 | .condBig => 10 | .condZero => 11 | .condMin => 12
  | .condRnd => 13 | .unknownJob => 14 | .tooLate => 15 | .voidExpired => 16 | .listFull => 17 | .inUse => 18
  | .overlap => 19 | .pageActive => 20 | .wrongState => 21 | .notCollected => 22 | .latchEmpty => 23 | .backlog => 24

def tenderCode : Tender → Byte
  | .cash => 1 | .card => 2 | .warrant => 3 | .voucher => 4

def roundingCode : Rounding → Byte
  | .nearest => 1 | .down => 2 | .up => 3 | .five => 4

def magCode (m : MagId) : Byte :=
  match m.printer, m.stock with
  | .p1, .ticket => 1 | .p1, .coupon => 2 | .p2, .ticket => 3 | .p2, .coupon => 4
  | .p3, .ticket => 5 | .p3, .coupon => 6 | .p4, .ticket => 7 | .p4, .coupon => 8

def pageCode : Page → Byte
  | .zero => 0 | .one => 1

def cursorModeCode : CursorMode → Byte
  | .sequential => 1 | .random => 2

def latchPartCode : LatchPart → Byte
  | .tallies => 1 | .state => 2 | .both => 3

def latchResultCode : LatchResult → Byte
  | .latched => 1 | .kept => 2

def resolutionCode : Resolution → Byte
  | .issued => 1 | .spoiled => 2

def testResultCode : TestResult → Byte
  | .all => 1 | .some => 2 | .none => 3

def jobStateCode : JobState → Byte
  | .queued => 1 | .staged => 2 | .feeding => 3 | .printing => 4 | .delivering => 5 | .inDoubt => 6

def stageCode : Stage → Byte
  | .staged => 1 | .feeding => 2 | .printing => 3 | .delivering => 4

def magStateCode : MagState → Byte
  | .empty => 1 | .pending => 2 | .active => 3 | .held _ => 4 | .discrepant => 5 | .exhausted => 6

def holdReasonCode : HoldReason → Byte
  | .opened => 1 | .office => 2 | .restart => 3 | .noProgress => 4

/-- The hold reason of a magazine state; absent outside HELD. -/
def holdReasonByte : MagState → Byte
  | .held r => holdReasonCode r
  | .empty | .pending | .active | .discrepant | .exhausted => 255

def faultKindCode : FaultKind → Byte
  | .feedJam => 1 | .exitJam => 2 | .headFault => 3 | .coverOpen => 4

def printerStateCode : PrinterState → Byte
  | .offline => 1 | .ready => 2 | .faulted _ => 3 | .withdrawn => 4

/-- The fault kind of a printer state; absent outside FAULTED. -/
def faultKindByte : PrinterState → Byte
  | .faulted k => faultKindCode k
  | .offline | .ready | .withdrawn => 255

def recordKindCode : RecordKind → Byte
  | .printer k => faultKindCode k
  | .sightMismatch => 5 | .magazineDiscrepant => 6 | .magazineOpened => 7 | .noResponse => 8 | .noProgress => 9
  | .restart => 10 | .retentionLost => 11

def recordStateCode : RecordState → Byte
  | .capturing => 1 | .opened => 2 | .acknowledged => 3

def startCauseCode : StartCause → Byte
  | .power => 1 | .office => 2

def dispositionCode : Disposition → Byte
  | .spoiled => 1 | .inDoubt => 2 | .voided => 3

def excReasonCode : ExcReason → Byte
  | .jam => 1 | .sight => 2 | .noProgress => 3 | .offline => 4 | .restart => 5 | .office => 6 | .void => 7

def missCauseCode : MissCause → Byte
  | .timeout => 1 | .framing => 2 | .check => 3 | .address => 4 | .form => 5

def shiftStateCode : ShiftState → Byte
  | .closed => 1 | .opened => 2 | .closing => 3 | .declaring => 4 | .listWait => 5

def overallCode : Overall → Byte
  | .balanced => 1 | .short => 2 | .over => 3 | .unordered => 4

def tenderResultCode : TenderResult → Byte
  | .balanced => 1 | .short => 2 | .over => 3 | .unordered => 4 | .notDeclared => 5

/-- The kind and qualifier of a trace entry (R194). -/
def traceKindBytes : TraceKind → List Byte
  | .print => [1, 0] | .clear => [2, 0] | .fed => [3, 0] | .printed => [4, 0] | .ejected => [5, 0]
  | .fault k => [6, faultKindCode k] | .magOpen x => [7, stockCode x] | .magClosed x => [8, stockCode x]
  | .miss c => [9, missCauseCode c] | .noResponse => [10, 0] | .timeout g => [11, stageCode g]
  | .emptyShown x => [12, stockCode x]

/-- A cursor list with its parameter (R186). -/
def cursorListBytes : CursorList → List Byte
  | .faultLog => [1, 0] | .exceptions => [2, 0] | .cashUp => [3, 0] | .jobs => [4, 0]
  | .recent w => [5, windowCode w] | .trace p => [6, printerCode p] | .discounts g => [7, pageCode g]

/-- The list code alone (R194). -/
def cursorListCode (l : CursorList) : List Byte := (cursorListBytes l).take 1

/-- A line rate in bit/s. -/
def LinkRate.bitsPerSecond : LinkRate → Nat
  | .b9600 => 9600 | .b19200 => 19200 | .b38400 => 38400 | .b57600 => 57600

def LineRate.bitsPerSecond : LineRate → Nat
  | .b19200 => 19200 | .b38400 => 38400

/-! ### Collections

What is given for each tender, window or stock type comes in the order of its code or number where a rule gives no other: the
model's choice (notes/assumptions 16). -/

def PerTender.bytes (f : α → List Byte) (x : PerTender α) : List Byte := f x.cash ++ f x.card ++ f x.warrant ++ f x.voucher

def PerWindow.bytes (f : α → List Byte) (x : PerWindow α) : List Byte :=
  f x.w1 ++ f x.w2 ++ f x.w3 ++ f x.w4 ++ f x.w5 ++ f x.w6

def PerStock.bytes (f : α → List Byte) (x : PerStock α) : List Byte := f x.ticket ++ f x.coupon

/-! ### Records (R24, R36, R45, R63, R69, R106, R131, R150, R161, R193) -/

/-- One line of a job as QUERY JOB and JOBS give it (R31, R37). -/
def PricedLine.bytes (l : PricedLine) : List Byte :=
  [fareClassCode l.fareClass] ++ num1 l.quantity ++ num3 l.fare ++ num1 l.code ++ num3 l.charge ++ num3 l.amount

/-- What QUERY JOB and JOBS give alike: state, stock type, tender, total, supplement, lines. -/
def Job.commonBytes (j : Job) : List Byte :=
  [jobStateCode j.state, stockCode j.stock, tenderCode j.tender] ++ num3 j.total ++ opt 3 num3 j.supplement ++
    num1 j.lines.length ++ j.lines.flatMap PricedLine.bytes

def optPrinter (p : Option Printer) : List Byte := opt 1 (fun p => [printerCode p]) p

/-- QUERY JOB of an active job (R37). -/
def Job.queryBytes (j : Job) (seq : Nat) : List Byte :=
  j.commonBytes ++ optPrinter j.printer ++ opt 3 num3 j.serial ++ num1 j.retry ++ mark j.referred ++ num1 seq

/-- A record of JOBS (R31). -/
def Job.recordBytes (j : Job) (seq : Nat) : List Byte :=
  j.tag.bytes ++ j.commonBytes ++ mark j.referred ++ [pageCode j.page] ++ optPrinter j.printer ++
    opt 3 num3 j.serial ++ num1 j.retry ++ num1 seq

/-- A record of RECENT (R36). -/
def RecentEntry.bytes (e : RecentEntry) : List Byte :=
  e.tag.bytes ++ [stockCode e.stock] ++ num3 e.serial ++ num3 e.total ++ [tenderCode e.tender] ++ e.issued.bytes ++
    mark e.voided

/-- QUERY JOB of a recent issue, with the state ISSUED (R37). -/
def RecentEntry.queryBytes (e : RecentEntry) : List Byte :=
  [7, stockCode e.stock, tenderCode e.tender] ++ num3 e.total ++ num3 e.serial ++ e.issued.bytes ++ mark e.voided

/-- A record of EXCEPTIONS (R63). -/
def ExcEntry.bytes (e : ExcEntry) : List Byte :=
  [stockCode e.stock] ++ num3 e.serial ++ [dispositionCode e.disposition, excReasonCode e.reason] ++
    opt 2 Tag.bytes e.tag ++ opt 3 num3 e.sighted ++ e.stamp.bytes

/-- A record of TRACE (R106). -/
def TraceEntry.bytes (e : TraceEntry) : List Byte :=
  traceKindBytes e.kind ++ opt 2 Tag.bytes e.tag ++ opt 3 num3 e.serial ++ e.stamp.bytes

/-- A record of FAULT_LOG (R131, R144). -/
def FaultRecord.bytes (r : FaultRecord) : List Byte :=
  bytes2 r.number ++ [recordKindCode r.kind] ++ optPrinter r.printer ++ opt 1 (fun g => [stageCode g]) r.stage ++
    opt 2 Tag.bytes r.tag ++ opt 3 num3 r.serial ++ opt 3 num3 r.sighted ++ opt 1 (fun m => [magCode m]) r.mag ++
    opt 1 (fun c => [startCauseCode c]) r.startCause ++ r.stamp.bytes ++ [recordStateCode r.state] ++
    mark r.ackPending ++ num1 r.target ++ num1 r.snapshot.length ++ r.snapshot.flatMap TraceEntry.bytes

/-- The four fields of a discount entry (R2). -/
def DiscountEntry.bytes (e : DiscountEntry) : List Byte :=
  num2 e.rate ++ [roundingCode e.mode] ++ num3 e.minimum ++ mark e.restricted

/-- The pack fields of a magazine. -/
def packBytes (k : Option Pack) : List Byte := opt 9 (fun k => num3 k.first ++ num3 k.last ++ num3 k.next) k

/-- A magazine record (R45). -/
def Magazine.bytes (r : Magazine) : List Byte :=
  [magStateCode r.state, holdReasonByte r.state] ++ mark r.notSighted ++ packBytes r.pack ++ num2 r.committed ++
    num2 r.counter ++ mark r.sightDue ++ mark r.low

/-- The magazine items of R67, with the remaining count. -/
def Magazine.statusBytes (r : Magazine) : List Byte :=
  [magStateCode r.state, holdReasonByte r.state] ++ mark r.notSighted ++ packBytes r.pack ++
    opt 2 (fun (k : Pack) => num2 (k.last + 1 - k.next)) r.pack ++ num2 r.committed ++ num2 r.counter ++
    mark r.sightDue ++ mark r.low

/-- The pack account (R49): the spoiled and voided items count entries of a list of at most 64 (R63), the others blanks of
a pack of at most 500 (R45), each at the width of R184. -/
def PackAccount.bytes (a : PackAccount) : List Byte :=
  [magCode a.mag, stockCode a.mag.stock, magStateCode a.state] ++ packBytes (some a.pack) ++ num2 a.drawn ++
    num1 a.spoiled ++ num1 a.voided ++ num2 a.issued ++ num2 a.unused ++ mark a.neverSighted

def optStock (k : Option Stock) : List Byte := opt 1 (fun k => [stockCode k]) k
def optTag (t : Option Tag) : List Byte := opt 2 Tag.bytes t
def optStamp (c : Option Stamp) : List Byte := opt 4 Stamp.bytes c

/-- A printer record (R69); the time of last outcome in ms. That a slot's job is carried as its tag alone is the model's
choice (notes/assumptions 16). -/
def PrinterRec.bytes (r : PrinterRec) : List Byte :=
  [printerStateCode r.state, faultKindByte r.state] ++ mark r.returnMark ++ optTag r.staged ++
    optTag (r.current.map (·.tag)) ++ optStock r.lastStock ++ opt 4 (fun t => num4 (10 * t)) r.lastOutcome ++
    num1 r.base ++ num1 r.multiplier ++ num1 r.changeover

/-- The tallies, in the order of R150. -/
def Tallies.bytes (t : Tallies) : List Byte :=
  t.tender.bytes (fun k => num2 k.count) ++ t.tender.bytes (fun k => num4 k.net) ++ num2 t.voidCount ++
    num4 t.voidAmount ++ t.stock.bytes num2 ++ num2 t.referred

/-- The result code of a CASHUP tender and the tender's figures (R193). -/
def CashUpTender.bytes (k : CashUpTender) : List Byte :=
  num2 k.count ++ num4 k.net ++ num4 k.expected ++ opt 4 num4 k.declared ++ optSigned k.variance ++
    [tenderResultCode k.result]

/-- A cash-up record, 107 bytes (R193). -/
def CashUp.bytes (r : CashUp) : List Byte :=
  [windowCode r.window] ++ opt 2 num2 r.clerk ++ bytes2 r.shift ++ optStamp r.openStamp ++ optStamp r.closeStamp ++
    num3 r.float ++ r.tender.bytes CashUpTender.bytes ++ num2 r.voidCount ++ num4 r.voidAmount ++
    r.stock.bytes num2 ++ num2 r.referred ++ r.sticky.bytes ++ [overallCode r.overall] ++ markSet [r.forced, r.collected]

/-- The STATE part of a snapshot (R161). -/
def SnapState.bytes (x : SnapState) : List Byte :=
  [shiftStateCode x.state] ++ opt 2 num2 x.clerk ++ num3 x.float ++ optStamp x.openStamp ++ optStamp x.closeStamp ++
    num1 x.active ++ mark x.ended ++ mark x.forced ++ opt 1 num1 x.waitPosition

/-- A snapshot (R161). -/
def Snapshot.bytes (x : Snapshot) : List Byte :=
  [windowCode x.window] ++ bytes2 x.shift ++ x.stamp.bytes ++ [latchPartCode x.part] ++
    (x.tallies.map fun t => t.1.bytes ++ t.2.bytes).getD [] ++ (x.state.map SnapState.bytes).getD []

def Tolerance.bytes (t : Tolerance) : List Byte := signed4 t.low ++ signed4 t.high ++ mark t.required

def Route.bytes (r : Route) : List Byte := [printerCode r.home] ++ optPrinter r.alternate

/-! ### STATUS (R87, R107, R144, R163, R175, R188) -/

def QueueFlags.bytes (f : QueueFlags) : List Byte := markSet [f.empty, f.half, f.full]

def DeviceView.bytes (v : DeviceView) : List Byte :=
  v.clock.bytes ++ num2 v.linkRate.bitsPerSecond ++ num2 v.lineRate.bitsPerSecond ++ [pageCode v.page] ++
    num1 v.voidPeriod ++ num1 v.lead ++ num1 v.active ++ v.flags.bytes ++
    v.windows.bytes fun x => num1 x.1 ++ num1 x.2

def PrinterView.bytes (v : PrinterView) : List Byte :=
  [printerStateCode v.state, faultKindByte v.state] ++ mark v.returnMark ++ optTag v.staged ++
    opt 3 (fun (x : Tag × JobState) => x.1.bytes ++ [jobStateCode x.2]) v.current ++ optStock v.lastStock ++
    num1 v.base ++ num1 v.multiplier ++ num1 v.changeover ++ num2 v.waitLeft

def PendingView.bytes : PendingView → List Byte
  | .none => [0] ++ absent 2
  | .print t => [1] ++ t.bytes
  | .clear => [2] ++ absent 2

/-- The line items of the PRINTER section (R107). The line rate as the first of them is the model's choice
(notes/assumptions 16). -/
def LineView.bytes (v : LineView) : List Byte :=
  num2 v.rate.bitsPerSecond ++ v.pendingCmd.bytes ++ [v.lastTaken.setWidth 8] ++ mark v.synced ++ num1 v.misses ++
    opt 2 (fun (x : Marks) => [x.marks, x.latched]) v.lastMarks ++ num1 v.ringLength

/-- The settings and counts of a stock type (R67). Three bytes for the spoiled and voided counts, which R184 gives no width,
are the model's choice (notes/assumptions 16). -/
def StockSettings.bytes (k : StockSettings) : List Byte :=
  num2 k.reload ++ opt 2 num2 k.pendingReload ++ num2 k.threshold ++ num3 k.spoiled ++ num3 k.voided

def StockView.bytes (v : StockView) : List Byte :=
  v.settings.bytes StockSettings.bytes ++ num1 v.entries ++ num1 v.reservations ++ num1 v.free

def FaultsView.bytes (v : FaultsView) : List Byte :=
  num1 v.records ++ num1 v.capturing ++ num1 v.opened ++ num1 v.acknowledged ++ num1 v.marked ++ mark v.overrun ++
    num1 v.lead ++ bytes2 v.nextNumber

/-- What both forms of STATUS give of a window (R163, R165). That the declaration-ended mark, which both rules name, is carried
once, at its place in R163, is the model's choice (notes/assumptions 16). -/
def ShiftView.bytes (v : ShiftView) : List Byte :=
  [shiftStateCode v.state] ++ bytes2 v.number ++ opt 2 num2 v.clerk ++ num3 v.float ++ optStamp v.openStamp ++
    num1 v.active ++ v.tallies.bytes ++ v.sticky.bytes ++ mark v.ended ++ flagBytes v.flags ++ num3 v.limit ++
    v.staged.bytes (opt 4 num4) ++ v.declared.bytes (opt 4 num4)

/-- The WINDOW section (R163, R165, R188). The place of the staged and declared values, after the limit and before the forced
mark, is the model's choice (notes/assumptions 16). -/
def WindowView.bytes (v : WindowView) : List Byte :=
  v.shift.bytes ++ mark v.forced ++ optStamp v.closeStamp ++ num1 v.waitOrder.length ++ v.waitOrder.map windowCode ++
    mark v.latched

/-- The CASHUP section (R175, R188). The order of the tolerance rows, CASH, CARD, WARRANT, VOUCHER, and that of the waiting
windows, by their places in the wait order and each led by its window number, are the model's choice (notes/assumptions
16). -/
def CashUpView.bytes (v : CashUpView) : List Byte :=
  num1 v.records ++ num1 v.uncollected ++ num1 v.waiting.length ++
    (v.waiting.flatMap fun x => [windowCode x.1] ++ num1 x.2.1 ++ [overallCode x.2.2]) ++
    v.tolerance.bytes Tolerance.bytes

/-- The low marks of one of the window's printers (R62). One byte with bit 0 for TICKET and bit 1 for COUPON is the model's
choice (notes/assumptions 16). -/
def PrinterBrief.lowBytes (b : PrinterBrief) : List Byte := markSet [b.lowTicket, b.lowCoupon]
/-- Number, state and fault kind of one of the window's printers. -/
def PrinterBrief.bytes (b : PrinterBrief) : List Byte :=
  [printerCode b.printer, printerStateCode b.state, faultKindByte b.state]

def WindowStatus.bytes (v : WindowStatus) : List Byte :=
  num1 v.active ++ num1 v.load ++ mark v.full ++ v.home.lowBytes ++ opt 1 PrinterBrief.lowBytes v.alternate ++
    v.home.bytes ++ opt 3 PrinterBrief.bytes v.alternate ++ mark v.noPrinter ++ v.shift.bytes

/-! ### Cursor records and reply bodies -/

def CursorRecord.bytes : CursorRecord → List Byte
  | .fault r => r.bytes
  | .exception e => e.bytes
  | .cashUp r => r.bytes
  | .job j seq => j.recordBytes seq
  | .recent e => e.bytes
  | .trace e => e.bytes
  | .discount g n e => [pageCode g] ++ num1 n ++ e.bytes

/-- The body of an accepted reply. -/
def Body.bytes : Body → List Byte
  | .issued t total c r => t.bytes ++ num3 total ++ c.bytes ++ mark r
  | .cancelled => []
  | .job j seq => j.queryBytes seq
  | .recent e => e.queryBytes
  | .voided t serial total k => t.bytes ++ num3 serial ++ num3 total ++ [tenderCode k]
  | .printerFault st => [printerStateCode st, faultKindByte st]
  | .opened n clerk c => bytes2 n ++ num2 clerk ++ c.bytes
  | .shift st n => [shiftStateCode st] ++ num1 n
  | .staged v => v.bytes (opt 4 num4)
  | .computed st r => [shiftStateCode st, overallCode r]
  | .windowStatus v => v.bytes
  | .device v => v.bytes
  | .printer _ v l => v.bytes ++ l.bytes
  | .routing v => v.bytes Route.bytes
  | .magazineStatus _ v => v.statusBytes
  | .stock v => v.bytes
  | .faults v => v.bytes
  | .window _ v => v.bytes
  | .cashUpStatus v => v.bytes
  | .clock c => c.bytes
  | .started warm c => [if warm then 1 else 2] ++ c.bytes
  | .selected l i m n => cursorListBytes l ++ num1 i ++ [cursorModeCode m] ++ num1 n
  | .record l i r => cursorListCode l ++ num1 i ++ [0] ++ r.bytes
  | .readEnd l i => cursorListCode l ++ num1 i ++ [1]
  | .discount _ _ e => e.bytes
  | .page g => [pageCode g]
  | .count n => num1 n
  | .resolved t serial r total => t.bytes ++ opt 3 num3 serial ++ [resolutionCode r] ++ num3 total
  | .value n => num1 n
  | .magazine _ v => v.bytes
  | .account a => a.bytes
  | .stockSet r p t => num2 r ++ opt 2 num2 p ++ num2 t
  | .pacing b m c => num1 b ++ num1 m ++ num1 c
  | .route r => r.bytes
  | .printerRecord _ r => r.bytes
  | .flushed t => optTag t
  | .acknowledged n st m => bytes2 n ++ [recordStateCode st] ++ mark m
  | .acknowledgedUpTo a m => num1 a ++ num1 m
  | .flags f => flagBytes f
  | .tested r f => [testResultCode r] ++ flagBytes f
  | .limit n => num3 n
  | .latched r => r.flatMap fun x => [windowCode x.1, latchResultCode x.2]
  | .snapshot v => v.bytes
  | .tolerance t => t.bytes
  | .cashUp r => r.bytes
  | .released w n left ws => [windowCode w] ++ bytes2 n ++ num1 left ++ ws.map windowCode

/-- The bytes of a reply: an accepted one under 128 plus its request's kind, a refusal under kind 255 (R184). -/
def Reply.bytes : Reply → List Byte
  | .accepted kind b => frame kind b.bytes
  | .refused kind c => frame 255 [kind, c.byte]
  | .priced c conds total => frame 255 ([1, c.byte] ++ conds.bytes ++ num4 total)

/-! ### Notices (R192) -/

/-- The qualifier of a FAILED or CANCELLED notice. -/
def reasonCode : Reason → Byte
  | .jam => 1 | .noProgress => 2 | .offline => 3 | .restart => 4 | .flush => 5

/-- The notice code and qualifier of a job notice. -/
def jobNoticeCodes : JobNoticeKind → Byte × Byte
  | .done => (1, 0)
  | .failed r => (2, reasonCode r)
  | .cancelled r => (3, reasonCode r)
  | .inDoubt => (4, 0)
  | .resolved .issued => (5, 6)
  | .resolved .spoiled => (5, 7)

/-- The body of a job notice, 11 bytes. -/
def JobNotice.bytes (n : JobNotice) : List Byte :=
  [(jobNoticeCodes n.kind).1] ++ n.tag.bytes ++ [(jobNoticeCodes n.kind).2, stockCode n.stock] ++ num3 n.total ++
    opt 3 num3 n.serial

/-- The body of a shift notice, 7 bytes. -/
def ShiftNotice.bytes (n : ShiftNotice) : List Byte :=
  [windowCode n.window] ++ bytes2 n.number ++ [shiftStateCode n.state] ++ num1 n.active ++ markSet [n.ended, n.forced] ++
    [n.result.elim 0 overallCode]

def Notice.bytes : Notice → List Byte
  | .job n => frame 240 n.bytes
  | .shift n => frame 241 n.bytes

/-- The bytes of the message a link transmitter is sending. -/
def Sending.bytes : Sending → List Byte
  | .reply r => r.bytes
  | .notice n => n.bytes

end Sys2Proof.Machine
end

