-- ==== Sys2Proof/Tests/Slice0.lean ====
section
/-! SUPPORT. Tests of the model: expected results come from the rules and the worked cases of spec/, named at each test. -/

namespace Sys2Proof.Tests

open Sys2Proof.Machine

/-! ### Helpers -/

/-- The state a command leads to. -/
def after (c : Instr) (s : State) : State :=
  match exec c s with
  | .next t => t
  | .fault _ | .refused _ => s

/-- The newest reply on a request's link after the request. -/
def answer (c : Instr) (s : State) : Option Reply :=
  (requestKind c).bind fun x => (((after c s).link x.1).order.getLast?).map (·.reply)

/-- The refusal code of an answer. -/
def code (r : Option Reply) : Option Code :=
  match r with
  | some (.refused _ c) | some (.priced c _ _) => some c
  | some (.accepted _ _) | none => none

/-- The part with nothing in it: running, every shift CLOSED, every printer OFFLINE. -/
def base : State := State.delivered

/-- A window's shift 1 OPEN. -/
def opened (w : Window) (s : State) : State :=
  s.modShift w fun h => { h with state := .opened, number := 1, clerk := some 7, openStamp := some ⟨0, 0, true⟩ }

/-- A printer READY and synchronised, with last-taken number 6. -/
def ready (p : Printer) (s : State) : State :=
  (s.modPrinter p fun r => { r with state := .ready }).modLine p fun r => { r with synced := true, lastTaken := 6 }

/-- An ACTIVE magazine with blanks from `next` to `last`, its pack beginning at `first`. -/
def filled (m : MagId) (first last next : Nat) (s : State) : State :=
  s.modMag m fun _ => ⟨.active, false, some ⟨first, last, next⟩, 0, 100, false, false⟩

/-- Window 1's shift OPEN, printer 1 READY, magazine 1T ACTIVE with next serial 4210. -/
def worked : State := filled ⟨.p1, .ticket⟩ 4200 4299 4210 (ready .p1 (opened .w1 base))

/-- Window 1's job `n`: a CASH TICKET job with total 1,800. -/
def ticketJob (n : JobNo) : Job :=
  ⟨⟨.w1, n⟩, 1, .ticket, [⟨.standard, 1, 1800, 0, 1800, 1800⟩], none, .cash, [], 90, none, .zero, 1800, false, .queued,
    none, none, 0⟩

/-- A state with these jobs of window 1. -/
def withJobs (js : List Job) (s : State) : State :=
  { s with jobs := js }.modShift .w1 fun h => { h with active := js.length }

/-- Job W1-015 QUEUED, with printer 1 OFFLINE. -/
def queued : State := withJobs [ticketJob 15] ((worked).modPrinter .p1 fun r => { r with state := .offline })

/-- Job W1-015 STAGED on printer 1, which waits for its pacing. -/
def staged : State :=
  ((withJobs [{ ticketJob 15 with state := .staged, printer := some .p1 }] worked).modPrinter .p1 fun r =>
    { r with staged := some ⟨.w1, 15⟩, lastOutcome := some 0, lastStock := some .coupon }).modMag ⟨.p1, .ticket⟩ fun m =>
    { m with committed := 1 }

/-- Job W1-015 in printer 1's current slot, in one of the three stages there, with its timer running. -/
def current (st : JobState) (g : Stage) (serial : Option Nat) (drawn : Nat) : State :=
  ((withJobs [{ ticketJob 15 with state := st, printer := some .p1, serial := serial }] worked).modPrinter .p1 fun r =>
      { r with current := some ⟨⟨.w1, 15⟩, 4210, false⟩, timer := some ⟨g, 300⟩ }).modMag ⟨.p1, .ticket⟩ fun m =>
    { m with pack := some ⟨4200, 4299, 4210 + drawn⟩, committed := 1 - drawn }

def feeding : State := current .feeding .feeding none 0
def printing : State := current .printing .printing (some 4210) 1
def delivering : State := current .delivering .delivering (some 4210) 1

/-- Job W1-015 IN_DOUBT with its entry. -/
def inDoubt : State :=
  { withJobs [{ ticketJob 15 with state := .inDoubt, printer := some .p1, serial := some 4210 }]
      (filled ⟨.p1, .ticket⟩ 4200 4299 4211 worked) with
    exceptions := [⟨.ticket, 4210, .inDoubt, .jam, some ⟨.w1, 15⟩, none, ⟨0, 0, true⟩⟩] }

/-- Job W1-015 issued: on the recent issue list, its blank drawn, its total in the CASH tally. -/
def issued : State :=
  ((filled ⟨.p1, .ticket⟩ 4200 4299 4211 worked).modWindow .w1 fun r =>
    { r with recent := [⟨⟨.w1, 15⟩, .ticket, 4210, 1800, .cash, ⟨0, 0, true⟩, false⟩] }).modShift .w1 fun h =>
    { h with tallies := (h.tallies.issue .cash .ticket 1800 false) }

/-- A turn with printer 1 in progress. -/
def turned (c : TurnCmd) (s : State) : State := { s with turn := some ⟨.p1, ⟨6, false⟩, c, c ≠ .poll⟩ }

/-- The pending PRINT of W1-015. -/
def printCmd : PrintCmd := ⟨⟨.w1, 15⟩, .ticket, false, 4210, 1800, (ticketJob 15).lines, [], 90, none⟩

/-- W1-015 FEEDING with its PRINT pending and not yet sent. -/
def printPending : State :=
  ((feeding).modPrinter .p1 fun r => { r with timer := none }).modLine .p1 fun r =>
    { r with pendingCmd := some (.print printCmd) }

/-- One event of a STATUS reply about job W1-015. -/
def jobEvent (n kind qual : Byte) (serial : Three) : RawEvent := ⟨n, kind, qual, 1, 15, serial⟩

/-- A STATUS reply without marks. -/
def status (es : List RawEvent) : StatusReply := ⟨0, 0, 0, es⟩

/-- A cash-up record of a window and shift. -/
def record (w : Window) (n : ShiftNo) (collected : Bool) : CashUp :=
  { cashUpOf w { ShiftRec.cleared with number := n } base.tolerance with collected := collected }

/-- An OPEN fault record of a number. -/
def fault (n : RecordNo) (st : RecordState) : FaultRecord :=
  ⟨n, .noResponse, some .p3, none, none, none, none, none, none, ⟨0, 0, true⟩, st, false, 8, []⟩

/-- A state in which the link's transmitter is waiting for its ready input. -/
def stopped (l : Link) (s : State) : State := s.modLink l fun r => { r with ready := false }

/-! ### Well-formed commands, and the words of the table -/

/-- A route code and lines that fill the body of 120 bytes (11 + 85 + 24), and one byte more (R180, R191). -/
def longIssue (n : Nat) : IssueReq := ⟨1, 1, 0xFFFFFF, 0, 0, 0, List.replicate n 65, List.replicate 4 ⟨1, 1, 100, 0⟩⟩

/-- The check on ISSUE bodies refuses 121 bytes. -/
theorem test_wf_refuses_long_issue : (Instr.issue .w1 (longIssue 86)).wf = false := by decide
theorem test_wf_takes_longest_issue : (Instr.issue .w1 (longIssue 85)).wf = true := by decide
/-- The check on STATUS replies refuses 4 + 8 · 13 bytes, above 100 (R90, R97). -/
theorem test_wf_refuses_long_status : (Instr.goodReply (status (List.replicate 13 (jobEvent 1 1 0 0)))).wf = false := by decide
theorem test_wf_takes_longest_status : (Instr.goodReply (status (List.replicate 12 (jobEvent 1 1 0 0)))).wf = true := by
  decide

/-- The table gives its rows no bits. -/
theorem test_no_table_word : decodeTableWord 8 1 = none := rfl

/-! ### Messages, byte for byte -/

/-- A CANCEL of job 5 (R180, R181): 2 + 1 + 5 + 248 = 256. -/
theorem test_message_cancel : decodeMessage (.window .w3) [2, 1, 5, 248] = some (.cancel .w3 5) := by decide
/-- A LOAD PACK of 2T, 004200, 6 blanks (R181, R191, R194): 30 + 6 + 3 + 0 + 16 + 104 + 0 + 6 + 91 = 256. -/
theorem test_message_loadPack :
    decodeMessage .office [30, 6, 3, 0, 16, 104, 0, 6, 91] = some (.loadPack 3 4200 6) := by decide
/-- A check byte that does not make the sum 0, a length above 120, and a kind of the other link (R180, R181). -/
theorem test_message_bad : decodeMessage (.window .w3) [2, 1, 5, 247] = some (.line (.window .w3) .badCheck) ∧
    decodeMessage .office [2, 121, 0] = some (.line .office .tooLong) ∧
    decodeMessage .office [2, 1, 5, 248] = some (.unknownKind .office 2) := by decide
/-- A flag request, a signed tolerance and both forms of COLLECT (R181, R191). -/
theorem test_message_office_forms : decodeRequest .office 48 [4, 0, 128] = .clearFlags 4 128 ∧
    decodeRequest .office 58 [1, 255, 255, 255, 56, 128, 0, 0, 0, 255] = .setTolerance 1 (BitVec.ofInt 32 (-200)) 0x80000000 255 ∧
    decodeRequest .office 59 [1] = .collect 1 none ∧ decodeRequest .office 59 [2, 2, 0, 36] = .collect 2 (some (2, 36)) := by
  decide
/-- An ISSUE of one line, and one whose length does not match its counts (R191). -/
theorem test_message_issue :
    decodeRequest (.window .w2) 1 [1, 1, 1, 255, 255, 255, 0, 90, 0, 0, 1, 65, 2, 3, 0, 4, 211, 7] =
        .issue .w2 ⟨1, 1, 0xFFFFFF, 90, 0, 0, [65], [⟨2, 3, 1235, 7⟩]⟩ ∧
      decodeRequest (.window .w2) 1 [1, 1, 2, 255, 255, 255, 0, 90, 0, 0, 1, 65, 2, 3, 0, 4, 211, 7] =
        .unknownKind (.window .w2) 1 := by decide
/-- A POLL to printer 2 with acknowledgement 6 and the resync mark: 2 + 17 + 1 + 22 + 214 = 256 (R90, R95). -/
theorem test_line_poll : Turn.bytes ⟨.p2, ⟨6, true⟩, .poll, false⟩ = [2, 17, 1, 22, 214] := by decide
/-- A PRINT for one line without a route code has a body of 25 bytes (R90, R95). -/
theorem test_line_print : (Turn.bytes ⟨.p1, ⟨6, false⟩, .print printCmd, true⟩).take 17 =
      [1, 18, 25, 6, 1, 15, 1, 0, 0, 16, 114, 0, 7, 8, 1, 2, 1] ∧
    (Turn.bytes ⟨.p1, ⟨6, false⟩, .print printCmd, true⟩).length = 29 := by decide
/-- Whole replies judged (R96, R97): a good one, 2 + 33 + 4 + 7 + 210 = 256, a bad check, another address, another kind. -/
theorem test_line_reply : judgeMessage .p2 [2, 33, 4, 0, 0, 7, 0, 210] = .goodReply ⟨0, 0, 7, []⟩ ∧
    judgeMessage .p2 [2, 33, 4, 0, 0, 7, 0, 211] = .miss .check ∧
    judgeMessage .p1 [2, 33, 4, 0, 0, 7, 0, 210] = .miss .address ∧
    judgeMessage .p2 [2, 34, 4, 0, 0, 7, 0, 209] = .miss .form := by decide
/-- Faults found byte by byte (R91, R96): a bad stop bit, a length of 101 and not of 100, a byte after the last. -/
theorem test_line_fault : replyFault [⟨2, true⟩] ⟨33, false⟩ = some .framing ∧
    [101, 100].map (fun n => replyFault [⟨2, true⟩, ⟨33, true⟩] ⟨n, true⟩) = [some .form, none] ∧
    replyFault ([2, 33, 0, 221].map (⟨·, true⟩)) ⟨0, true⟩ = some .framing ∧
    replyFault ([2, 33, 0].map (⟨·, true⟩)) ⟨221, true⟩ = none := by decide
/-- The window STATUS reply begins with kind 138, and the refusal of an owed entry is 255, 2, 0, code, check (R184). -/
theorem test_reply_bytes : (Reply.refused 0 .overrun).bytes = [255, 2, 0, 4, 251] := by decide

/-! ### Fares (01) -/

/-- The worked case of the four rounding modes, in the order NEAREST, DOWN, UP, FIVE: charge and RND. -/
def modes (rate fare : Nat) : List (Nat × Bool) :=
  [Rounding.nearest, .down, .up, .five].map fun m => let c := chargeOf ⟨rate, m, 0, false⟩ fare; (c.charge, c.rnd)

theorem test_rounding_modes :
    modes 2525 1000 = [(748, true), (747, true), (748, true), (750, true)] ∧
    modes 2500 1000 = [(750, false), (750, false), (750, false), (750, false)] ∧
    modes 0 7 = [(7, false), (7, false), (7, false), (5, true)] ∧ modes 0 8 = [(8, false), (8, false), (8, false), (8, false)] ∧
    modes 5000 1 = [(1, true), (0, true), (1, true), (0, true)] := by decide

/-- The worked case of the minimum: charge, RND, MIN. -/
theorem test_minimum :
    [chargeOf ⟨9000, .down, 300, false⟩ 2000, chargeOf ⟨9000, .down, 300, false⟩ 250, chargeOf ⟨9000, .nearest, 200, false⟩ 1234,
      chargeOf ⟨10000, .up, 150, false⟩ 1234, chargeOf ⟨5000, .five, 150, false⟩ 0, chargeOf ⟨0, .five, 100, false⟩ 7,
      chargeOf ⟨5000, .down, 1, false⟩ 1] =
    [⟨300, false, true⟩, ⟨250, false, true⟩, ⟨200, true, true⟩, ⟨150, false, true⟩, ⟨0, false, false⟩, ⟨5, true, false⟩,
      ⟨1, true, true⟩] := by decide

/-! ### Window requests -/

/-- The worked case "a coupon job at window 2" (01). -/
def couponJob : IssueReq := ⟨2, 1, 400, 90, 65, 12, [76, 79, 78], [⟨2, 2, 1235, 7⟩, ⟨2, 1, 1235, 0⟩]⟩
def couponState (flags : BitVec 9) (limit : Nat) : State :=
  let s := opened .w2 base
  { s with fare := s.fare.write .zero 7 ⟨3333, .five, 500, false⟩ }.modWindow .w2 fun r =>
    { r with profile := ⟨flags, limit⟩, shift := { r.shift with nextJob := 41 } }

theorem test_issue_coupon :
    answer (.issue .w2 couponJob) (couponState 0x1F3 500000) =
      some (.accepted 129 (.issued ⟨.w2, 41⟩ 3285 ⟨true, false, false, false, false, false⟩ false)) ∧
    answer (.issue .w2 couponJob) (couponState 0x1F3 3000) =
      some (.accepted 129 (.issued ⟨.w2, 41⟩ 3285 ⟨true, false, true, false, false, false⟩ true)) ∧
    [couponState 0x1D3 500000, couponState 0x153 3000, couponState 0x1D3 3000].map (fun s => code (answer (.issue .w2 couponJob) s)) =
      [some .condRnd, some .condBig, some .condRnd] ∧
    code (answer (.issue .w2 { couponJob with stock := 1 }) (couponState 0x1F3 500000)) = some .badForm := by decide

/-- The worked case "totals at the limits" (01): 18,000,000 refused OVERFLOW, 9,999,999 accepted as referred. -/
theorem test_issue_limits :
    answer (.issue .w5 ⟨1, 2, 0xFFFFFF, 0, 0, 0, [], List.replicate 4 ⟨2, 9, 500000, 0⟩⟩) (opened .w5 base) =
      some (.priced .overflow ⟨false, false, true, false, true, false⟩ 18000000) ∧
    answer (.issue .w5 ⟨1, 2, 0xFFFFFF, 0, 0, 0, [], [⟨2, 9, 500000, 0⟩, ⟨2, 9, 500000, 0⟩, ⟨2, 9, 111111, 0⟩]⟩) (opened .w5 base) =
      some (.accepted 129 (.issued ⟨.w5, 0⟩ 9999999 ⟨false, false, true, false, false, false⟩ true)) := by decide

/-- CANCEL of a STAGED job gives up its slot and its place; of a FEEDING job it is TOO_LATE (R33). -/
theorem test_cancel : (after (.cancel .w1 15) staged).jobs = [] ∧
    ((after (.cancel .w1 15) staged).printer .p1).staged = none ∧
    ((after (.cancel .w1 15) staged).mag ⟨.p1, .ticket⟩).committed = 0 ∧
    code (answer (.cancel .w1 15) feeding) = some .tooLate ∧ code (answer (.cancel .w1 16) feeding) = some .unknownJob := by
  decide

theorem test_queryJob : answer (.queryJob .w1 15) issued =
      some (.accepted 131 (.recent ⟨⟨.w1, 15⟩, .ticket, 4210, 1800, .cash, ⟨0, 0, true⟩, false⟩)) ∧
    answer (.queryJob .w1 15) queued = some (.accepted 131 (.job (ticketJob 15) 1)) ∧
    code (answer (.queryJob .w1 14) queued) = some .unknownJob := by decide

/-- VOID within the void period of 10 minutes: the CASH count stays and the amount goes back, the entry is VOIDED; a minute
later it is refused (06, "a doubt resolved and the ticket voided"). -/
theorem test_void : ((after (.void .w1 15) issued).shift .w1).tallies.tender.cash = ⟨1, 0⟩ ∧
    ((after (.void .w1 15) issued).shift .w1).tallies.voidAmount = 1800 ∧
    (after (.void .w1 15) issued).exceptions.map (·.disposition) = [.voided] ∧
    code (answer (.void .w1 15) { issued with clock := ⟨0, 10, true⟩ }) = none ∧
    code (answer (.void .w1 15) { issued with clock := ⟨0, 11, true⟩ }) = some .voidExpired := by decide

/-- The worked case "a tally at its limit" (08): an amount held at its limit stays through a VOID. -/
theorem test_void_held :
    (Tallies.void ⟨⟨⟨0, 0⟩, ⟨42, 999999999⟩, ⟨0, 0⟩, ⟨0, 0⟩⟩, 0, 0, ⟨0, 0⟩, 0⟩ .card 5000 ⟨true, false, false, false, false, true⟩) =
      ⟨⟨⟨0, 0⟩, ⟨42, 999999999⟩, ⟨0, 0⟩, ⟨0, 0⟩⟩, 1, 5000, ⟨0, 0⟩, 0⟩ := by decide

/-- CLEAR PRINTER needs the flag CLEAR_PRINTER and a FAULTED printer (R84). -/
def faulted : State :=
  (worked.modPrinter .p1 fun r => { r with state := .faulted .exitJam }).modWindow .w1 fun r =>
    { r with profile := { r.profile with flags := 0x1FB } }

theorem test_clearPrinter : ((after (.clearPrinter .w1 1) faulted).lineRec .p1).pendingCmd = some .clear ∧
    ((after (.clearPrinter .w1 1) faulted).printer .p1).returnMark = true ∧
    code (answer (.clearPrinter .w1 3) faulted) = some .notPermitted ∧
    code (answer (.clearPrinter .w1 2) faulted) = some .wrongState ∧
    code (answer (.clearPrinter .w1 5) faulted) = some .badValue := by decide

/-- OPEN SHIFT at the ends of its ranges: clerk 1 to 9,999, float 0 to 999,999 (R152). -/
theorem test_openShift : [(0, 0), (1, 0), (9999, 999999), (10000, 0), (9999, 1000000)].map
      (fun x => code (answer (.openShift .w1 (BitVec.ofNat 16 x.1) (BitVec.ofNat 24 x.2)) base)) =
      [some .badValue, none, none, some .badValue, some .badValue] ∧
    ((after (.openShift .w1 9999 999999) base).shift .w1).number = 1 ∧
    code (answer (.openShift .w1 1 0) worked) = some .shiftState := by decide

/-- CLOSE SHIFT leaves CLOSING with active jobs and DECLARING without (R153). -/
theorem test_closeShift : ((after (.closeShift .w1) queued).shift .w1).state = .closing ∧
    ((after (.closeShift .w1) worked).shift .w1).state = .declaring ∧
    code (answer (.closeShift .w1) base) = some .shiftState := by decide

/-- A shift in DECLARING. -/
def declaring : State := worked.modShift .w1 fun h => { h with state := .declaring }

theorem test_declare : ((after (.declare .w1 1 999999999) declaring).shift .w1).staged.cash = some 999999999 ∧
    code (answer (.declare .w1 1 1000000000) declaring) = some .badValue ∧
    code (answer (.declare .w1 5 0) declaring) = some .badValue ∧
    code (answer (.declare .w1 1 0) worked) = some .shiftState := by decide

/-- The worked case "a balanced cash-up at window 2" (09), and its variations. -/
def cashUpShift (cash voucher card : Option Nat) : ShiftRec :=
  { ShiftRec.cleared with
    state := .declaring, number := 36, float := 5000
    tallies := ⟨⟨⟨12, 26140⟩, ⟨4, 48900⟩, ⟨0, 0⟩, ⟨1, 2500⟩⟩, 1, 1200, ⟨17, 0⟩, 0⟩
    staged := ⟨cash, card, none, voucher⟩ }

def cashUpState (cash voucher card : Option Nat) : State := base.modShift .w2 fun _ => cashUpShift cash voucher card

theorem test_declareEnd :
    [cashUpState (some 31000) (some 2500) none, cashUpState (some 31000) none none, cashUpState (some 30900) (some 2500) none,
      cashUpState (some 31400) (some 2500) none, cashUpState (some 30900) (some 2600) none,
      cashUpState (some 31000) (some 2500) (some 48800)].map (answer (.declareEnd .w2)) =
    [Overall.balanced, .unordered, .short, .over, .short, .short].map fun r =>
      some (.accepted 137 (.computed .closed r)) := by decide

theorem test_windowStatus : answer (.windowStatus .w1) queued = some (.accepted 138 (.windowStatus (queued.windowStatus .w1))) ∧
    (queued.windowStatus .w1).active = 1 ∧ (queued.windowStatus .w1).noPrinter = true ∧
    (staged.windowStatus .w1).home = ⟨.p1, .ready, false, false⟩ := by decide

/-! ### Office requests: device, cursor, fares, jobs -/

theorem test_officeStatus : [(1, 0), (1, 1), (2, 0), (2, 4), (4, 8), (7, 6), (8, 0), (9, 0)].map
      (fun x => code (answer (.officeStatus (BitVec.ofNat 8 x.1) (BitVec.ofNat 8 x.2)) base)) =
      [none, some .badValue, some .badValue, none, none, none, none, some .badValue] ∧
    base.deviceView.flags = ⟨true, false, false⟩ ∧ queueFlags 16 = ⟨false, true, false⟩ ∧ queueFlags 32 = ⟨false, true, true⟩ := by
  decide

theorem test_setClock : (after (.setClock 65535 1439) base).clock = ⟨65535, 1439, false⟩ ∧
    code (answer (.setClock 0 1440) base) = some .badValue := by decide

theorem test_restart : (after .restart queued).power = .starting ⟨true, .office, 0⟩ ∧ (after .restart queued).jobs.length = 1 := by
  decide

theorem test_coldStart : (after .coldStart base).power = .starting ⟨false, .office, 0⟩ ∧
    code (answer .coldStart worked) = some .inUse := by decide

theorem test_select : (after (.select 5 6 64 2) base).cursor = ⟨some (.recent .w6), 64, .random⟩ ∧
    [(5, 7, 1, 1), (1, 1, 1, 1), (1, 0, 0, 1), (1, 0, 65, 1), (1, 0, 1, 3)].map (fun x =>
      code (answer (.select (BitVec.ofNat 8 x.1) (BitVec.ofNat 8 x.2.1) (BitVec.ofNat 8 x.2.2.1) (BitVec.ofNat 8 x.2.2.2)) base)) =
      List.replicate 5 (some .badValue) := by decide

/-- A SEQUENTIAL read of the first record of FAULT_LOG clears the overrun mark and moves the cursor (R136, R187). -/
def logged : State :=
  { base with
    faults := ⟨[fault 501 .opened, fault 502 .capturing, fault 510 .acknowledged], 5, true, 511⟩
    cursor := ⟨some .faultLog, 1, .sequential⟩ }

theorem test_read : (after .read logged).faults.overrun = false ∧ (after .read logged).cursor.position = 2 ∧
    (after .read { logged with cursor := ⟨some .faultLog, 1, .random⟩ }).faults.overrun = true ∧
    answer .read { logged with cursor := ⟨some .faultLog, 4, .sequential⟩ } = some (.accepted 145 (.readEnd .faultLog 4)) ∧
    code (answer .read base) = some .wrongState := by decide

theorem test_writeDiscount : (after (.writeDiscount 1 31 10000 4 65535 1) base).fare.entry .one 31 = ⟨10000, .five, 65535, true⟩ ∧
    [(0, 31, 1), (1, 0, 1), (1, 32, 1), (1, 31, 5)].map (fun x => code (answer
      (.writeDiscount (BitVec.ofNat 8 x.1) (BitVec.ofNat 8 x.2.1) 0 (BitVec.ofNat 8 x.2.2) 0 0) base)) =
      [some .pageActive, some .badValue, some .badValue, some .badValue] := by decide

theorem test_switchPage : (after .switchPage base).fare.active = .one ∧ answer .switchPage base = some (.accepted 149 (.page .one)) := by
  decide

/-- FLUSH WINDOW cancels what is QUEUED or STAGED, with carried notices (02). -/
theorem test_flushWindow : answer (.flushWindow 1) (stopped (.window .w1) staged) = some (.accepted 152 (.count 1)) ∧
    (after (.flushWindow 1) (stopped (.window .w1) staged)).load .w1 = 1 ∧
    ((after (.flushWindow 1) (stopped (.window .w1) staged)).shift .w1).active = 0 ∧
    (after (.flushWindow 1) feeding).jobs.length = 1 := by decide

/-- RESOLVE ISSUED removes the entry and tallies; SPOILED keeps it (R121, R122). -/
theorem test_resolve : (after (.resolve 1 15 1) inDoubt).exceptions = [] ∧
    ((after (.resolve 1 15 1) inDoubt).shift .w1).tallies.tender.cash = ⟨1, 1800⟩ ∧
    (after (.resolve 1 15 2) inDoubt).exceptions.map (fun e => (e.disposition, e.reason)) = [(.spoiled, .office)] ∧
    ((after (.resolve 1 15 2) inDoubt).stock.get .ticket).spoiled = 1 ∧
    code (answer (.resolve 1 15 1) delivering) = some .wrongState := by decide

theorem test_resolveWindow : answer (.resolveWindow 1) inDoubt = some (.accepted 154 (.count 1)) ∧
    (after (.resolveWindow 1) inDoubt).jobs = [] ∧ code (answer (.resolveWindow 7) inDoubt) = some .badValue := by decide

theorem test_setVoidPeriod : (after (.setVoidPeriod 61) base).voidPeriod = 60 ∧ (after (.setVoidPeriod 0) base).voidPeriod = 0 := by
  decide

/-! ### Office requests: stock, printers and the fault log -/

/-- The worked case "one pack from loading to unloading" (03): the LOAD PACK row, and the checks. -/
theorem test_loadPack : (after (.loadPack 3 4200 6) { base with stock := ⟨⟨100, some 3, 20, 0, 0⟩, base.stock.coupon⟩ }).mag ⟨.p2, .ticket⟩ =
      ⟨.pending, true, some ⟨4200, 4205, 4200⟩, 0, 3, false, true⟩ ∧
    [(3, 999999, 1), (3, 999999, 2), (3, 0, 501), (3, 0, 0), (9, 0, 1), (1, 0, 1), (3, 4299, 1), (4, 4299, 1)].map (fun x =>
      code (answer (.loadPack (BitVec.ofNat 8 x.1) (BitVec.ofNat 24 x.2.1) (BitVec.ofNat 16 x.2.2)) worked)) =
      [none, some .badValue, some .badValue, some .badValue, some .badValue, some .inUse, some .overlap, none] := by decide

/-- The UNLOAD of the same worked case: drawn 4, spoiled 1, issued 3, unused 2. -/
def discrepant : State :=
  { base.modMag ⟨.p2, .ticket⟩ fun _ => ⟨.discrepant, false, some ⟨4200, 4205, 4204⟩, 0, 3, true, true⟩ with
    exceptions := [⟨.ticket, 4203, .spoiled, .sight, some ⟨.w3, 23⟩, some 4204, ⟨0, 0, true⟩⟩] }

theorem test_unload : answer (.unload 3) discrepant =
      some (.accepted 159 (.account ⟨⟨.p2, .ticket⟩, .discrepant, ⟨4200, 4205, 4204⟩, 4, 1, 0, 3, 2, false⟩)) ∧
    (after (.unload 3) discrepant).exceptions = [] ∧ code (answer (.unload 1) inDoubt) = some .inUse ∧
    code (answer (.unload 1) printing) = some .inUse ∧ code (answer (.unload 1) base) = some .wrongState := by decide

/-- The pack account after its first three bytes: spoiled and voided in one byte each (R49, R63, R184). -/
theorem test_unload_bytes :
    (PackAccount.bytes ⟨⟨.p2, .ticket⟩, .discrepant, ⟨4200, 4205, 4204⟩, 4, 1, 0, 3, 2, false⟩).drop 3 =
      [0, 16, 104, 0, 16, 109, 0, 16, 108, 0, 4, 1, 0, 0, 3, 0, 2, 0] := by decide

theorem test_hold : ((after (.hold 1) staged).mag ⟨.p1, .ticket⟩).state = .held .office ∧
    (after (.hold 1) staged).jobs.map (·.state) = [.queued] ∧ code (answer (.hold 1) base) = some .wrongState := by decide

theorem test_reinstate :
    ((after (.reinstate 3) (base.modMag ⟨.p2, .ticket⟩ fun _ => ⟨.held .opened, true, some ⟨1, 2, 3⟩, 0, 0, false, true⟩)).mag ⟨.p2, .ticket⟩) =
      ⟨.exhausted, false, some ⟨1, 2, 3⟩, 0, 0, false, true⟩ ∧ code (answer (.reinstate 1) worked) = some .wrongState := by decide

/-- A reload value is latched while 1T counts, and clamped (R61; 03). -/
theorem test_setStock : (after (.setStock 1 3 0xFFFF) worked).stock.ticket = ⟨100, some 3, 20, 0, 0⟩ ∧
    (after (.setStock 2 2048 501) worked).stock.coupon = ⟨2047, none, 500, 0, 0⟩ ∧
    ((after (.setStock 1 0xFFFF 90) worked).mag ⟨.p1, .ticket⟩).low = true ∧
    ((after (.setStock 1 0xFFFF 89) worked).mag ⟨.p1, .ticket⟩).low = false ∧
    code (answer (.setStock 1 0xFFFF 0xFFFF) worked) = some .badForm := by decide

/-- The worked case "pacing, changeover and diversion" (04): 400 ms after the outcome at 0, changeover 2 lets the print go. -/
theorem test_setPrinter : (after (.setPrinter 1 0xFF 0xFF 2) { staged with now := 40 }).jobs.map (·.state) = [.feeding] ∧
    (after (.setPrinter 1 0xFF 0xFF 2) { staged with now := 39 }).jobs.map (·.state) = [.staged] ∧
    answer (.setPrinter 1 8 3 16) base = some (.accepted 166 (.pacing 7 2 15)) ∧
    answer (.setPrinter 1 0xFF 0 0xFF) base = some (.accepted 166 (.pacing 2 1 8)) ∧
    code (answer (.setPrinter 1 0xFF 0xFF 0xFF) base) = some .badForm := by decide

theorem test_setRoute : (after (.setRoute 6 2 0xFF) base).routes.w6 = ⟨.p2, none⟩ ∧
    [(6, 2, 2), (6, 5, 1), (7, 1, 2), (6, 4, 0)].map (fun x => code (answer
      (.setRoute (BitVec.ofNat 8 x.1) (BitVec.ofNat 8 x.2.1) (BitVec.ofNat 8 x.2.2)) base)) = List.replicate 4 (some .badValue) := by
  decide

theorem test_withdraw : ((after (.withdraw 1) staged).printer .p1).state = .withdrawn ∧
    (after (.withdraw 1) staged).jobs.map (·.state) = [.queued] ∧ ((after (.withdraw 1) feeding).printer .p1).current.isSome ∧
    code (answer (.withdraw 1) (base.modPrinter .p1 fun r => { r with state := .withdrawn })) = some .wrongState := by decide

theorem test_returnPrinter : ((after (.returnPrinter 1) faulted).lineRec .p1).pendingCmd = some .clear ∧
    code (answer (.returnPrinter 1) worked) = some .wrongState ∧ code (answer (.returnPrinter 0) worked) = some .badValue := by
  decide

theorem test_flushPrinter : answer (.flushPrinter 1) staged = some (.accepted 170 (.flushed (some ⟨.w1, 15⟩))) ∧
    answer (.flushPrinter 1) feeding = some (.accepted 170 (.flushed none)) := by decide

theorem test_setLead : (after (.setLead 8) base).faults.lead = 7 := by decide

/-- The worked case "a full log and the overrun mark" (07): UP_TO reaches records in log order; 506 is unknown. -/
theorem test_acknowledge : (after (.acknowledge 2 510) logged).faults.records.map (fun r => (r.state, r.ackPending)) =
      [(.acknowledged, false), (.capturing, true), (.acknowledged, false)] ∧
    answer (.acknowledge 2 510) logged = some (.accepted 173 (.acknowledgedUpTo 1 1)) ∧
    code (answer (.acknowledge 1 506) logged) = some .unknownJob ∧ code (answer (.acknowledge 3 501) logged) = some .badValue := by
  decide

/-! ### Office requests: profiles, shifts and cash-up -/

/-- The worked case "flag updates at window 4" (08): 0x1F3 is COUPON, VOID, DIVERT and the masks. -/
theorem test_toggleFlags : answer (.toggleFlags 4 0x14) base = some (.accepted 178 (.flags 0x1E7)) := by decide

def toggled : State := base.modWindow .w4 fun r => { r with profile := { r.profile with flags := 0x1E7 } }

theorem test_testFlags : answer (.testFlags 4 0x11) toggled = some (.accepted 179 (.tested .some 0x1E7)) ∧
    answer (.testFlags 4 0x18) toggled = some (.accepted 179 (.tested .none 0x1E7)) ∧
    answer (.testFlags 4 0x1E7) toggled = some (.accepted 179 (.tested .all 0x1E7)) := by decide

theorem test_clearFlags : answer (.clearFlags 4 0x80) toggled = some (.accepted 176 (.flags 0x167)) ∧
    code (answer (.clearFlags 4 512) toggled) = some .badValue := by decide

theorem test_setFlags : code (answer (.setFlags 4 0) toggled) = some .badForm ∧
    answer (.setFlags 4 0x8) toggled = some (.accepted 177 (.flags 0x1EF)) := by decide

theorem test_setLimit : ((after (.setLimit 1 10000000) base).window .w1).profile.limit = 9999999 := by decide

/-- The worked case "a forced close with jobs outstanding" (08): the marks are set, the staged figure goes. -/
theorem test_forceClose :
    let s := delivering.modShift .w1 fun h => { h with state := .closing, staged := ⟨some 31000, none, none, none⟩ }
    ((after (.forceClose 1) s).shift .w1).state = .closing ∧ ((after (.forceClose 1) s).shift .w1).ended = true ∧
      ((after (.forceClose 1) s).shift .w1).forced = true ∧ ((after (.forceClose 1) s).shift .w1).staged = .absent ∧
      ((after (.forceClose 1) worked).shift .w1).state = .closed ∧ code (answer (.forceClose 1) base) = some .shiftState := by decide

theorem test_latch : answer (.latch 0x21 1) base = some (.accepted 182 (.latched [(.w1, .latched), (.w6, .latched)])) ∧
    ((after (.latch 0x21 1) worked).window .w1).snapshot =
      some ⟨.w1, 1, ⟨0, 0, true⟩, .tallies, some (.zero, .none), none⟩ ∧
    [(0, 1), (64, 1), (1, 4)].map (fun x => code (answer (.latch (BitVec.ofNat 8 x.1) (BitVec.ofNat 8 x.2)) base)) =
      [some .badForm, some .badValue, some .badValue] := by decide

/-- Window 1 with an unread snapshot. -/
def latched : State := after (.latch 1 3) worked

theorem test_readLatched : ((after (.readLatched 1) latched).window .w1).snapshot = none ∧
    code (answer (.readLatched 1) latched) = none ∧ code (answer (.readLatched 2) latched) = some .latchEmpty := by decide

theorem test_setTolerance : answer (.setTolerance 2 (BitVec.ofInt 32 (-100000)) 100000 255) base =
      some (.accepted 186 (.tolerance ⟨-99999, 99999, false⟩)) ∧
    answer (.setTolerance 1 1 0x80000000 0) base = some (.accepted 186 (.tolerance ⟨0, 200, false⟩)) ∧
    code (answer (.setTolerance 1 0x80000000 0x80000000 255) base) = some .badForm ∧
    code (answer (.setTolerance 1 0 0 2) base) = some .badValue := by decide

/-- Two records, the older collected. -/
def listed : State := { base with cashUps := [record .w2 36 true, record .w1 80 false] }

theorem test_collect : (after (.collect 1 none) listed).cashUps.map (·.collected) = [true, true] ∧
    answer (.collect 1 none) listed = some (.accepted 187 (.cashUp (record .w1 80 true))) ∧
    code (answer (.collect 2 (some (2, 37))) listed) = some .unknownJob ∧ code (answer (.collect 1 (some (2, 36))) listed) = some .badForm ∧
    code (answer (.collect 3 none) listed) = some .badValue := by decide

/-- The worked case "a full list and two waiting windows" (09). -/
def fullList : State :=
  let s : State :=
    { base with
      cashUps := record .w1 80 true :: (List.range 11).map fun n => record .w2 (BitVec.ofNat 16 n) false
      waitOrder := [.w3, .w5] }
  (s.modShift .w3 fun h => { h with state := .listWait, number := 21, heldRecord := some (record .w3 21 false) }).modShift .w5
    fun h => { h with state := .listWait, number := 9, heldRecord := some (record .w5 9 false) }

theorem test_release : answer (.release 1 80) fullList = some (.accepted 188 (.released .w1 80 12 [.w3])) ∧
    (after (.release 1 80) fullList).waitOrder = [.w5] ∧ ((after (.release 1 80) fullList).shift .w3).state = .closed ∧
    code (answer (.release 2 0) fullList) = some .notCollected ∧ code (answer (.openShift .w3 1 0) fullList) = some .backlog := by
  decide

/-- The window admitted by a RELEASE is told: its CLOSED notice with the overall result goes out on its free link. -/
theorem test_release_notice : ((after (.release 1 80) fullList).link (.window .w3)).sending =
    some (.notice (.shift ⟨.w3, 21, .closed, 0, false, false, some (record .w3 21 false).overall⟩)) := by decide

/-! ### Link events -/

/-- Window 3's link with the reply order and notice list of the worked case "a busy window link" (10). -/
def busy (order : List ReplyEntry) (sending : Option Sending) (last : LastSent) (notices : List NoticeRef) : State :=
  (base.modWindow .w3 fun r => { r with notices := notices }).modLink (.window .w3) fun r =>
    { r with order := order, sending := sending, lastSent := last }

def carriedNotice (n : JobNo) : NoticeRef := ⟨.carried, .job ⟨.cancelled .flush, ⟨.w3, n⟩, .ticket, 1800, none⟩⟩
def heldEntry (k : Byte) : ReplyEntry := ⟨.held, .refused k .badForm⟩
def owedEntry (c : Code) : ReplyEntry := ⟨.owed, .refused 0 c⟩

/-- The request completes with last-sent REPLY and a notice due: the notice begins, and the load falls (R185; 10). -/
theorem test_notice_first :
    ((after (.queryJob .w3 1) (busy [] none .reply [carriedNotice 254, carriedNotice 0])).link (.window .w3)).sending =
      some (.notice (carriedNotice 254).notice) ∧
    (after (.queryJob .w3 1) (busy [] none .reply [carriedNotice 254, carriedNotice 0])).load .w3 = 1 := by decide

/-- A notice ends: the reply at the head begins. A reply ends: it leaves the order and the next notice begins (10). -/
theorem test_transmitComplete :
    let s := busy [heldEntry 1, heldEntry 10] (some (.notice (carriedNotice 254).notice)) .notice [carriedNotice 0]
    let t := busy [heldEntry 1, heldEntry 10] (some (.reply (heldEntry 1).reply)) .reply [carriedNotice 0]
    ((after (.transmitComplete (.window .w3)) s).link (.window .w3)).sending = some (.reply (heldEntry 1).reply) ∧
      ((after (.transmitComplete (.window .w3)) s).link (.window .w3)).order.length = 2 ∧
      ((after (.transmitComplete (.window .w3)) t).link (.window .w3)).order = [heldEntry 10] ∧
      ((after (.transmitComplete (.window .w3)) t).link (.window .w3)).lastSent = .notice := by decide

theorem test_unknownKind : ((after (.unknownKind .office 99) base).link .office).order = [⟨.held, .refused 99 .badForm⟩] := by decide

/-- A LINE refusal is owed up to four times; a length above 120 discards until a gap (R180, R182). -/
theorem test_line :
    ((after (.line .office .badCheck) base).link .office).order = [owedEntry .line] ∧
    ((after (.line (.window .w3) .badStopBit) (busy (List.replicate 4 (owedEntry .line)) none .reply [])).link (.window .w3)).order.length = 4 ∧
    ((after (.line .office .tooLong) base).link .office).discarding = true := by decide

theorem test_overrun : ((after (.overrun (.window .w3)) (busy [heldEntry 1, heldEntry 10] none .reply [])).link (.window .w3)).order =
    [heldEntry 1, heldEntry 10, owedEntry .overrun] := by decide

theorem test_gapDiscard : ((after (.gapDiscard .office) (base.modLink .office fun r => { r with discarding := true })).link .office).discarding =
    false := by decide

theorem test_requestDuringStart : ((after (.requestDuringStart .office 10) { base with power := .starting ⟨true, .power, 0⟩ }).link
    .office).order = [⟨.held, .refused 10 .wrongState⟩] := by decide

theorem test_linkReadyAsserted :
    ((after (.linkReadyAsserted (.window .w3)) (stopped (.window .w3) (busy [heldEntry 1] none .reply []))).link (.window .w3)).sending =
      some (.reply (heldEntry 1).reply) := by decide

theorem test_readyInputFalls : ((after (.readyInputFalls (.window .w3)) (busy [heldEntry 1] (some (.reply (heldEntry 1).reply)) .reply [])).link
    (.window .w3)).sending.isSome = true := by decide

/-! ### The receivers, one step each -/

/-- Bytes with valid stop bits. -/
def rx (bs : List Byte) : List RxByte := bs.map (⟨·, true⟩)

/-- A link with the first bytes of a message, and the byte that comes in next. -/
def hearing (l : Link) (bs : List RxByte) (b : RxByte) : State :=
  { base.modLink l fun r => { r with arriving := bs } with arrivals := [.byte l b] }

/-- The state a step leads to. -/
def stepped (s : State) : State :=
  match step s with
  | .next t => t
  | .fault _ | .refused _ => s

/-- The last byte of CANCEL 5 at window 3 brings its request (2 + 1 + 5 + 248 = 256); a byte before it is held (R180). -/
theorem test_hear_request :
    ((stepped (hearing (.window .w3) (rx [2, 1, 5]) ⟨248, true⟩)).link (.window .w3)).order = [⟨.held, .refused 2 .unknownJob⟩] ∧
    ((stepped (hearing (.window .w3) (rx [2, 1, 5]) ⟨248, true⟩)).link (.window .w3)).arriving = [] ∧
    ((stepped (hearing (.window .w3) (rx [2, 1]) ⟨5, true⟩)).link (.window .w3)).arriving = rx [2, 1, 5] := by decide

/-- A bad check, a bad stop bit of any byte, and a length of 121 give LINE; the last discards until a gap (R180). -/
theorem test_hear_line :
    [hearing .office (rx [17, 0]) ⟨238, true⟩, hearing .office [⟨17, false⟩, ⟨0, true⟩] ⟨239, true⟩,
      hearing .office (rx [17]) ⟨121, true⟩, hearing .office (rx [17, 0]) ⟨239, true⟩].map (fun s =>
        let r := (stepped s).link .office
        (r.order, r.discarding, r.arriving)) =
      [([owedEntry .line], false, []), ([owedEntry .line], false, []), ([owedEntry .line], true, []),
        ([⟨.held, .refused 17 .wrongState⟩], false, [])] := by decide

/-- A gap drops the message in progress (R180). -/
theorem test_hear_gap :
    let s := { hearing .office (rx [17, 0]) ⟨239, true⟩ with arrivals := [.gap .office] }
    ((stepped s).link .office).arriving = [] ∧ ((stepped s).link .office).order = [] := by decide

/-- A turn with printer 1 in which bytes have been heard, and what comes next. -/
def listening (bs : List RxByte) (a : Arrival) : State := { turned .poll worked with heard := bs, arrivals := [a] }

/-- A whole reply of printer 1, 1 + 33 + 4 + 7 + 211 = 256, is taken at the idle; a window that closes is a miss, and so is an
idle after a reply short of its last byte, but not one before any byte (R91, R96). -/
theorem test_hear_reply : ((stepped (listening (rx [1, 33, 4, 0, 0, 7, 0, 211]) .lineIdle)).lineRec .p1).lastMarks = some ⟨0, 0⟩ ∧
    [listening (rx [1, 33, 4, 0, 0, 7, 0]) .windowCloses, listening (rx [1, 33]) (.lineByte ⟨4, false⟩),
      listening (rx [1, 33]) (.lineByte ⟨101, true⟩), listening (rx [1, 33, 4, 0, 0, 7, 0, 210]) .lineIdle,
      listening (rx [1, 33, 4, 0, 0, 7, 0]) .lineIdle, listening [] .lineIdle].map
        (fun s => ((stepped s).lineRec .p1).ring.map (·.kind)) =
      [[.miss .timeout], [.miss .framing], [.miss .form], [.miss .check], [.miss .timeout], []] := by decide

/-! ### The printer line: the worked case "one print, a lost command and a repeated event" (05) -/

theorem test_poll : (after .poll worked).turn = some ⟨.p1, ⟨6, false⟩, .poll, false⟩ ∧
    (after .poll base).turn = some ⟨.p1, ⟨0, true⟩, .poll, false⟩ ∧ (after .poll printPending).turn = none := by decide

/-- The PRINT of turn A: its entry, and the FEEDING limit of 3 s at the first sending alone (R106, R109). -/
theorem test_print : ((after .print printPending).lineRec .p1).ring = [⟨.print, some ⟨.w1, 15⟩, some 4210, ⟨0, 0, true⟩⟩] ∧
    ((after .print printPending).printer .p1).timer = some ⟨.feeding, 300⟩ ∧
    ((after .print (printPending.modPrinter .p1 fun r => { r with timer := some ⟨.feeding, 250⟩ })).printer .p1).timer =
      some ⟨.feeding, 250⟩ := by decide

theorem test_clear : (after .clear (after (.returnPrinter 1) faulted)).turn = some ⟨.p1, ⟨6, false⟩, .clear, true⟩ := by decide

/-- Turns A to E: a good reply clears the PRINT; FED, PRINTED and EJECTED at distance 1 are taken. -/
theorem test_goodReply :
    ((after (.goodReply (status [])) (turned (.print printCmd) printPending)).lineRec .p1).pendingCmd = none ∧
    (after (.goodReply (status [jobEvent 7 1 0 0xFFFFFF])) (turned .poll feeding)).jobs.map (fun j => (j.state, j.serial)) =
      [(.printing, some 4210)] ∧
    (after (.goodReply (status [jobEvent 7 2 0 0xFFFFFF])) (turned .poll printing)).jobs.map (·.state) = [.delivering] ∧
    ((after (.goodReply (status [jobEvent 7 3 0 0xFFFFFF])) (turned .poll delivering)).shift .w1).tallies.tender.cash = ⟨1, 1800⟩ ∧
    (after (.goodReply (status [jobEvent 6 3 0 0xFFFFFF])) (turned .poll delivering)).jobs.length = 1 := by decide

/-- A jam of a PRINTING job, latched: the blank is spoiled, the job is returned with its retry used, and the printer is
FAULTED (06, "a spoiled blank"; R85, R116). -/
theorem test_goodReply_jam :
    let t := after (.goodReply ⟨8, 2, 7, [jobEvent 7 4 2 0xFFFFFF]⟩) (turned .poll printing)
    t.exceptions.map (fun e => (e.serial, e.disposition, e.reason)) = [(4210, .spoiled, .jam)] ∧
      t.jobs.map (fun j => (j.state, j.retry)) = [(.queued, 1)] ∧ (t.printer .p1).state = .faulted .exitJam ∧
      t.faults.records.map (fun r => (r.stage, r.serial)) = [(some .printing, some 4210)] := by decide

/-- New events are at distances 1 to 4 (R98): after 14, numbers 15, 2 and not 3 or 14. -/
theorem test_distances : [15, 2, 3, 14].map (fun n => isNew n 14) = [true, true, false, false] := by decide

/-- The third miss declares NO_RESPONSE: OFFLINE, 1T HELD (NO_PROGRESS), the job back in the queue (05, "a printer falls
silent"; R104, R115). A PRINT missed once stays pending. -/
theorem test_miss :
    let t := after (.miss .timeout) (turned (.print printCmd) (printPending.modLine .p1 fun r => { r with misses := 2 }))
    (t.printer .p1).state = .offline ∧ t.jobs.map (·.state) = [.queued] ∧ (t.mag ⟨.p1, .ticket⟩).state = .held .noProgress ∧
      (t.lineRec .p1).pendingCmd = none ∧ (t.lineRec .p1).ring.map (·.kind) = [.miss .timeout, .noResponse] ∧
      ((after (.miss .timeout) (turned (.print printCmd) printPending)).lineRec .p1).pendingCmd = some (.print printCmd) := by decide

/-! ### Counters, timers, the clock and the supplies -/

theorem test_auditCounterZero : ((after (.auditCounterZero ⟨.p1, .ticket⟩) worked).mag ⟨.p1, .ticket⟩).sightDue = true ∧
    ((after (.auditCounterZero ⟨.p1, .ticket⟩) { worked with stock := ⟨⟨100, some 3, 20, 0, 0⟩, base.stock.coupon⟩ }).mag ⟨.p1, .ticket⟩).counter = 3 := by
  decide

/-- A stage limit runs out in each stage (03, "a print that made no progress"; R115 to R117). -/
theorem test_stageExpiry : (after (.stageExpiry .p1) feeding).jobs.map (·.state) = [.queued] ∧
    ((after (.stageExpiry .p1) feeding).mag ⟨.p1, .ticket⟩).state = .held .noProgress ∧
    (after (.stageExpiry .p1) printing).exceptions.map (·.reason) = [.noProgress] ∧
    (after (.stageExpiry .p1) delivering).jobs.map (·.state) = [.inDoubt] := by decide

/-- The pacing wait of 1,000 ms after a COUPON runs out: permission, with the expected serial (04). -/
theorem test_pacingWaitExpiry : (after (.pacingWaitExpiry .p1) staged).now = 100 ∧
    ((after (.pacingWaitExpiry .p1) staged).printer .p1).current = some ⟨⟨.w1, 15⟩, 4210, false⟩ ∧
    ((after (.pacingWaitExpiry .p1) staged).lineRec .p1).pendingCmd = some (.print printCmd) := by decide

theorem test_clockAdvance : (after .clockAdvance { base with clock := ⟨65535, 1439, true⟩ }).clock = ⟨0, 0, true⟩ ∧
    (after .clockAdvance base).clock = ⟨0, 1, true⟩ := by decide

theorem test_powerOn : (after (.powerOn ⟨false, true, true⟩) { base with power := .off, standby := false }).power =
      .starting ⟨false, .power, 0⟩ ∧
    (after (.powerOn ⟨false, true, true⟩) { base with power := .off }).linkRate = .b38400 ∧
    (after (.powerOn ⟨false, true, true⟩) { base with power := .off }).lineRate = .b38400 := by decide

theorem test_mainSupplyLoss : ((after .mainSupplyLoss feeding).printer .p1).current = none ∧
    (after .mainSupplyLoss feeding).jobs.map (·.state) = [.feeding] := by decide

theorem test_retentionSupplyLow : (after .retentionSupplyLow base).standby = false := by decide

/-- The worked case "a loss of power in mid-shift" (11): the FEEDING job is IN_DOUBT with the next serial, and the magazine
HELD (RESTART). -/
theorem test_startComplete :
    let t := after .startComplete { after .mainSupplyLoss feeding with power := .starting ⟨true, .power, 0⟩ }
    t.jobs.map (fun j => (j.state, j.serial)) = [(.inDoubt, some 4210)] ∧ (t.mag ⟨.p1, .ticket⟩).state = .held .restart ∧
      (t.mag ⟨.p1, .ticket⟩).next = 4211 ∧ t.faults.records.map (·.kind) = [.restart] ∧ t.power = .running := by decide

/-- A step takes the front command; with none waiting it runs what is due, and else lets time pass (notes/assumptions 3). -/
theorem test_step :
    (match step { base with pending := [.switchPage, .read] } with | .next t => some (t.pending, t.fare.active) | _ => none) =
      some ([.read], .one) ∧
    (match step { base with now := 6000 } with | .next t => some t.clock | _ => none) = some ⟨0, 1, true⟩ ∧
    (match step base with | .next t => some t.now | _ => none) = some 1 := by decide


/-! ### Witnesses of the obligations' hypotheses: the laws hold in these states -/

theorem lists_of_empty {s : State} {w : Window} (h : (s.window w).notices = []) (h' : (s.window w).recent = []) :
    s.WindowListsLawful w := by simp [State.WindowListsLawful, WindowRec.refs, h, h']

/-- The job table of a state with no notices and no recent issues. -/
theorem table_of {s : State} (h : ∀ w, (s.window w).notices = []) (h' : ∀ w, (s.window w).recent = [])
    (h1 : s.jobs.length ≤ 8) (h2 : (s.jobs.map (·.tag)).Nodup) (h3 : s.exceptions.length ≤ 56) : s.TableLawful := by
  refine ⟨by omega, h2, fun j _ e he => ?_, fun w => ?_, fun w => lists_of_empty (h w) (h' w), ?_⟩
  · rw [h'] at he; exact absurd he List.not_mem_nil
  · have : s.activeJobs w ≤ s.jobs.length := List.countP_le_length
    simp only [State.load, State.carried, h, List.countP_nil]; omega
  · have : s.reservations ≤ s.jobs.length := List.countP_le_length
    omega

theorem table_base : base.TableLawful :=
  table_of (fun w => by cases w <;> rfl) (fun w => by cases w <;> rfl) (by decide) (by decide) (by decide)
theorem table_staged : staged.TableLawful :=
  table_of (fun w => by cases w <;> rfl) (fun w => by cases w <;> rfl) (by decide) (by decide) (by decide)
theorem table_feeding : feeding.TableLawful :=
  table_of (fun w => by cases w <;> rfl) (fun w => by cases w <;> rfl) (by decide) (by decide) (by decide)
theorem table_printing : printing.TableLawful :=
  table_of (fun w => by cases w <;> rfl) (fun w => by cases w <;> rfl) (by decide) (by decide) (by decide)
theorem table_delivering : delivering.TableLawful :=
  table_of (fun w => by cases w <;> rfl) (fun w => by cases w <;> rfl) (by decide) (by decide) (by decide)
theorem table_inDoubt : inDoubt.TableLawful :=
  table_of (fun w => by cases w <;> rfl) (fun w => by cases w <;> rfl) (by decide) (by decide) (by decide)

/-- The timers of a state in which no PRINT is pending. -/
theorem timers_of {s : State} (h : ∀ p, (s.printer p).current = none → (s.printer p).timer = none)
    (h' : ∀ p, (s.lineRec p).pendingCmd = none ∨ (s.lineRec p).pendingCmd = some .clear) : s.TimersLawful :=
  fun p => ⟨h p, fun c hc => by rcases h' p with e | e <;> exact absurd (e.symm.trans hc) (by simp)⟩

/-- The timers of a state with W1-015 in printer 1's current slot, its PRINT pending. -/
theorem timers_pending {s : State} (h : ∀ p, (s.printer p).current = none → (s.printer p).timer = none)
    (h' : ∀ p, p ≠ .p1 → (s.lineRec p).pendingCmd = none) (h1 : (s.lineRec .p1).pendingCmd = some (.print printCmd))
    (h2 : (s.printer .p1).current = some ⟨⟨.w1, 15⟩, 4210, false⟩) : s.TimersLawful := by
  refine fun p => ⟨h p, fun c hc => ?_⟩
  by_cases hp : p = .p1
  · subst hp
    cases PendingCmd.print.inj (Option.some.inj (h1.symm.trans hc))
    exact h2
  · exact absurd ((h' p hp).symm.trans hc) (by simp)

/-- The slots of a running state with one job, in printer 1's current slot. -/
theorem slots_of {s : State} {j : Job} {c : Current} (ht : s.TimersLawful) (h : s.power = .running) (hj : s.jobs = [j])
    (h1 : ∀ p, (s.printer p).staged = none) (h2 : ∀ p, (s.printer p).current = if p = .p1 then some c else none)
    (h3 : c.tag = j.tag) (h4 : j.state.reserved = true) (h5 : j.printer = some .p1)
    (h6 : ∀ m, (s.mag m).committed = s.jobs.countP (·.commitsTo m) ∧ (s.mag m).committed ≤ (s.mag m).remaining ∧
      ((s.mag m).state = .empty → (s.mag m).committed = 0)) : s.SlotsLawful := by
  simp only [State.SlotsLawful, h]
  refine ⟨ht, ⟨fun p t ht => ?_, fun x hx hs => ?_⟩, ⟨fun p t ht => ?_, fun x hx _ => ?_⟩, h6⟩
  · rw [h1] at ht; exact absurd ht (by simp)
  · rw [hj, List.mem_singleton] at hx; subst hx; rw [hs] at h4; exact absurd h4 (by decide)
  · rw [h2] at ht
    split at ht
    · rename_i hp; subst hp
      have : c = t := by simpa using ht
      subst this
      exact ⟨j, by simp [hj], h3.symm, h4, h5⟩
    · exact absurd ht (by simp)
  · rw [hj, List.mem_singleton] at hx; subst hx
    exact ⟨.p1, h5, by simp [h2, h3]⟩

theorem slots_feeding : feeding.SlotsLawful :=
  slots_of (timers_of (fun p => by cases p <;> decide) (fun p => .inl (by cases p <;> rfl))) rfl rfl
    (fun p => by cases p <;> rfl) (fun p => by cases p <;> rfl) rfl rfl rfl fun ⟨p, k⟩ => by cases p <;> cases k <;> decide
theorem slots_printPending : printPending.SlotsLawful :=
  slots_of (timers_pending (fun p => by cases p <;> decide) (fun p => by cases p <;> decide) rfl rfl) rfl rfl
    (fun p => by cases p <;> rfl) (fun p => by cases p <;> rfl) rfl rfl rfl fun ⟨p, k⟩ => by cases p <;> cases k <;> decide
theorem slots_printing : printing.SlotsLawful :=
  slots_of (timers_of (fun p => by cases p <;> decide) (fun p => .inl (by cases p <;> rfl))) rfl rfl
    (fun p => by cases p <;> rfl) (fun p => by cases p <;> rfl) rfl rfl rfl fun ⟨p, k⟩ => by cases p <;> cases k <;> decide
theorem slots_delivering : delivering.SlotsLawful :=
  slots_of (timers_of (fun p => by cases p <;> decide) (fun p => .inl (by cases p <;> rfl))) rfl rfl
    (fun p => by cases p <;> rfl) (fun p => by cases p <;> rfl) rfl rfl rfl fun ⟨p, k⟩ => by cases p <;> cases k <;> decide

theorem shifts_feeding : feeding.ShiftsLawful := by
  refine ⟨fun w => by cases w <;> rfl, fun j hj => ?_, fun w => by cases w <;> decide, by decide, fun w => by cases w <;> decide⟩
  have : j = { ticketJob 15 with state := .feeding, printer := some .p1 } := List.mem_singleton.mp hj
  subst this
  exact ⟨rfl, .inl rfl⟩

/-- W1-015 FEEDING, and its FED in the reply that the step takes. -/
def running : State :=
  { turned .poll feeding with pending := [.goodReply (status [jobEvent 7 1 0 0xFFFFFF])] }

theorem running_steps : ∃ t, step running = .next t ∧ t.jobs.map (·.state) = [.printing] := ⟨_, rfl, by decide⟩

theorem witness_SettingsAndPagesKept : running.SettingsLawful ∧ running.PagesLawful ∧ ∃ t, step running = .next t := by
  refine ⟨⟨fun p => ?_, fun k => ?_, fun t => ?_, fun w => ?_, ?_⟩, fun g => ?_, _, rfl⟩
  · unfold PrinterRec.inRange; cases p <;> decide
  · unfold StockSettings.inRange; cases k <;> decide
  · unfold Tolerance.inRange; cases t <;> decide
  · cases w <;> decide
  · decide
  · cases g <;> decide

theorem witness_CapacitiesKept : running.LinesLawful ∧ running.LogLawful ∧ running.ListLawful ∧ running.OrdersLawful ∧
    ∃ t, step running = .next t := by
  refine ⟨fun p => by cases p <;> decide, ?_, ?_, ⟨fun w => ?_, ?_⟩, _, rfl⟩
  · unfold State.LogLawful; decide
  · unfold State.ListLawful; decide
  · unfold LinkRec.bounded; cases w <;> decide
  · unfold LinkRec.bounded; decide

/-- The lists at their bounds: 12 cash-up records, a ring of 16, three misses, 24 fault records, two held requests. -/
theorem witness_CapacitiesKept_full :
    let s : State :=
      { fullList with
        lines := ⟨⟨none, 0, false, 3, none, List.replicate 16 ⟨.noResponse, none, none, ⟨0, 0, true⟩⟩⟩, .cleared, .cleared, .cleared⟩
        faults := ⟨List.replicate 24 (fault 1 .opened), 5, false, 25⟩
        links := ⟨base.links.window, ⟨[heldEntry 1, heldEntry 2, owedEntry .line, ⟨.start, .refused 0 .line⟩], none, .reply, true, false, []⟩⟩
        pending := [.miss .timeout] }
    s.LinesLawful ∧ s.LogLawful ∧ s.ListLawful ∧ s.OrdersLawful ∧ ∃ t, step s = .next t := by
  refine ⟨fun p => by cases p <;> decide, ?_, ?_, ⟨fun w => ?_, ?_⟩, _, rfl⟩
  · unfold State.LogLawful; decide
  · unfold State.ListLawful; decide
  · unfold LinkRec.bounded; cases w <;> decide
  · unfold LinkRec.bounded; decide

theorem printers_faulted : (after (.returnPrinter 1) faulted).PrintersLawful := fun p => by
  refine ⟨by cases p <;> decide, ?_⟩
  cases p
  · exact fun _ => .inr ⟨.exitJam, rfl⟩
  all_goals exact fun h => absurd h (by decide)

theorem witness_PrinterLawKept : ∃ t, step { after (.returnPrinter 1) faulted with pending := [.poll] } = .next t ∧
    (after (.returnPrinter 1) faulted).PrintersLawful := ⟨_, rfl, printers_faulted⟩

theorem worked_pack (m : MagId) :
    (worked.mag m).pack = if m = ⟨.p1, .ticket⟩ then some ⟨4200, 4299, 4210⟩ else none := by
  obtain ⟨p, k⟩ := m; cases p <;> cases k <;> rfl

theorem packs_worked : worked.PacksLawful := by
  refine ⟨fun m => ⟨?_, fun q hq => ?_⟩, fun m n hm _ k hk q hq => ?_⟩
  · obtain ⟨p, k⟩ := m; cases p <;> cases k <;> decide
  · rw [worked_pack] at hq
    split at hq
    · cases Option.mem_some_iff.mp hq; exact ⟨by decide, by decide, by decide⟩
    · exact absurd hq (by simp)
  · rw [worked_pack] at hk hq
    split at hk <;> split at hq
    · rename_i h1 h2; exact absurd (h1.trans h2.symm) hm
    all_goals first | exact absurd hq (Option.not_mem_none _) | exact absurd hk (Option.not_mem_none _)

/-- The slots of a running state without jobs. -/
theorem slots_of_none {s : State} (ht : s.TimersLawful) (h : s.power = .running) (hj : s.jobs = []) (h1 : ∀ p, (s.printer p).staged = none)
    (h2 : ∀ p, (s.printer p).current = none) (h3 : ∀ m, (s.mag m).committed = 0) : s.SlotsLawful := by
  simp only [State.SlotsLawful, h, State.StagedLawful, State.CurrentLawful, hj, h1, h2, h3]
  simpa using ht

theorem slots_worked : worked.SlotsLawful :=
  slots_of_none (timers_of (fun p _ => by cases p <;> rfl) (fun p => .inl (by cases p <;> rfl))) rfl rfl
    (fun p => by cases p <;> rfl) (fun p => by cases p <;> rfl)
    (fun ⟨p, k⟩ => by cases p <;> cases k <;> rfl)

theorem table_worked : worked.TableLawful :=
  table_of (fun w => by cases w <;> rfl) (fun w => by cases w <;> rfl) (by decide) (by decide) (by decide)

/-- `worked` with an entry for the blank 4209, drawn from 1T, and a recent issue of the blank 4208. -/
def spent : State :=
  { worked.modWindow .w1 fun r => { r with recent := [⟨⟨.w1, 9⟩, .ticket, 4208, 1800, .cash, ⟨0, 0, true⟩, false⟩] } with
    exceptions := [⟨.ticket, 4209, .spoiled, .jam, none, none, ⟨0, 0, true⟩⟩] }

theorem blanks_spent : spent.BlanksLawful := by
  refine ⟨⟨fun e he => ?_, by decide⟩, ⟨fun j hj => ?_, fun p c hc => ?_, fun j hj => ?_⟩, fun w e he => ⟨fun m _ q hq => ?_, ?_⟩⟩
  · cases List.mem_singleton.mp he
    exact ⟨⟨.p1, .ticket⟩, rfl, ⟨4200, 4299, 4210⟩, rfl, by decide, by decide⟩
  · exact absurd hj List.not_mem_nil
  · cases p <;> cases hc
  · exact absurd hj List.not_mem_nil
  · have hw : e.serial = 4208 := by
      cases w <;> first | exact absurd he List.not_mem_nil | (cases List.mem_singleton.mp he; rfl)
    have hq' : q = ⟨4200, 4299, 4210⟩ := by
      have := worked_pack m
      rw [show (worked.mag m).pack = (spent.mag m).pack from rfl, Option.mem_def.mp hq] at this
      split at this
      · exact Option.some.inj this
      · exact absurd this (by simp)
    subst hq'; rw [hw]; decide
  · exact fun j hj => absurd hj List.not_mem_nil

/-- The load of a pack next to 1T's, with an entry on the list; a pack with the serial of a recent issue is not fresh. -/
theorem witness_PackLawKept : worked.TableLawful ∧ worked.SlotsLawful ∧ worked.PacksLawful ∧
    (∃ t, step { worked with pending := [.loadPack 3 4300 500] } = .next t ∧
      (t.mag ⟨.p2, .ticket⟩).pack = some ⟨4300, 4799, 4300⟩ ∧ worked.LoadsFresh t) ∧ spent.BlanksLawful :=
  ⟨table_worked, slots_worked, packs_worked,
    ⟨_, rfl, by decide, fun _ _ _ _ w _ he _ => absurd he (by cases w <;> exact List.not_mem_nil)⟩, blanks_spent⟩

theorem witness_FareBoundsKept : running.FaresLawful ∧ ∃ t, step running = .next t := by
  refine ⟨fun j hj => ?_, _, rfl⟩
  have : j = { ticketJob 15 with state := .feeding, printer := some .p1 } := List.mem_singleton.mp hj
  subst this
  exact ⟨by decide, by decide⟩

theorem witness_TableLawKept : running.TableLawful ∧ ∃ t, step running = .next t := ⟨table_feeding, _, rfl⟩
theorem witness_SlotLawKept : running.TableLawful ∧ running.SlotsLawful ∧ ∃ t, step running = .next t :=
  ⟨table_feeding, slots_feeding, _, rfl⟩
theorem witness_ShiftLawKept : running.TableLawful ∧ running.ShiftsLawful ∧ ∃ t, step running = .next t :=
  ⟨table_feeding, shifts_feeding, _, rfl⟩
theorem witness_JobFieldsStayFixed : running.TableLawful ∧ ∃ t j j', step running = .next t ∧ j ∈ running.jobs ∧ j' ∈ t.jobs ∧
    j'.tag = j.tag ∧ j'.state = .printing :=
  ⟨table_feeding, _, _, _, rfl, List.mem_singleton.mpr rfl, List.mem_singleton.mpr rfl, by decide⟩

/-! ### Witnesses of the obligations' hypotheses: messages, requests, ISSUE -/

theorem witness_IdleStepRunsDueEvent : base.pending = [] ∧ base.arrivals = [] ∧ base.dueEvent = none ∧
    { base with now := 5999 }.dueEvent = none ∧ { base with now := 6000 }.dueEvent = some .clockAdvance := by decide

/-- Bytes that begin, go on with and end a message: lengths 0, 120 and 121, the last byte but one and the last. -/
theorem witness_IdleStepRunsDueEvent_bytes :
    ([([], 17), ([17], 120), ([17], 121), ([17, 0], 239), ([17, 1], 0), ([17, 1, 0], 238)] : List (List Byte × Byte)).all (fun x =>
      let s := hearing .office (rx x.1) ⟨x.2, true⟩
      s.pending = [] && s.power = .running && !(s.link .office).discarding && (s.link .office).arriving = rx x.1) = true ∧
    (hearing .office [] ⟨0, true⟩).arrivals = .byte .office ⟨0, true⟩ :: [] ∧
    ((hearing .office [⟨17, false⟩, ⟨0, true⟩] ⟨239, true⟩).link .office).arriving = [⟨17, false⟩, ⟨0, true⟩] ∧
    byteSum [17, 0, 239] = 0 ∧ byteSum [17, 0, 238] ≠ 0 := by decide

/-- The longest ISSUE, and the message of a CANCEL coming in on an idle receiver. -/
theorem witness_RequestMessagesDecode : (Instr.issue .w1 (longIssue 85)).wf = true ∧
    (∃ m, encodeMessage (.issue .w1 (longIssue 85)) = some (.window .w1, m) ∧ m.length = 123) ∧
    encodeMessage (.cancel .w3 5) = some (.window .w3, [2, 1, 5, 248]) ∧
    (let s : State := { base with arrivals := [2, 1, 5, 248].map (fun b => Arrival.byte (.window .w3) ⟨b, true⟩) ++ [.lineIdle] }
     s.pending = [] ∧ s.power ≠ .off ∧ (s.link (.window .w3)).discarding = false ∧ (s.link (.window .w3)).arriving = []) :=
  ⟨by decide, ⟨_, rfl, by decide⟩, by decide, by decide⟩

/-- Replies of 12 events and of none; the bytes of one coming in; each judgement at its boundary. -/
theorem witness_StatusRepliesDecode : (status (List.replicate 12 (jobEvent 1 1 0 0))).wf = true ∧ (status []).wf = true ∧
    lineFrame .p1 33 (encodeStatus (status [])) = [1, 33, 4, 0, 0, 0, 0, 218] ∧
    (let s : State := { turned .poll worked with
        arrivals := [1, 33, 4, 0, 0, 0, 0, 218].map (fun b => Arrival.lineByte ⟨b, true⟩) ++ [.lineIdle] }
     s.turn = some ⟨.p1, ⟨6, false⟩, .poll, false⟩ ∧ s.pending = [] ∧ s.heard = []) ∧
    (listening [] (.lineByte ⟨0, false⟩)).turn.isSome = true ∧ ({ base with arrivals := [.lineIdle] } : State).turn = none ∧
    byteSum [1, 33, 0, 222] = 0 ∧ byteSum [2, 33, 0, 221] = 0 ∧ byteSum [1, 32, 0, 223] = 0 ∧ byteSum [1, 33, 0, 221] ≠ 0 ∧
    decodeStatus [] = none ∧ encodeStatus (status []) = [0, 0, 0, 0] := by decide

/-- Window 3's link with two held requests, and with three or four owed refusals besides. -/
def heldTwo (owed : Nat) : State := busy ([heldEntry 1, heldEntry 2] ++ List.replicate owed (owedEntry .line)) none .reply []

theorem witness_RequestsNotTaken : requestKind (.windowStatus .w3) = some (.window .w3, 10) ∧
    ({ base with power := .off } : State).power = .off ∧
    ((base.modLink (.window .w3) fun r => { r with discarding := true }).link (.window .w3)).discarding = true ∧
    (∀ n ∈ [0, 3, 4], (heldTwo n).power ≠ .off ∧ ((heldTwo n).link (.window .w3)).discarding = false ∧
      2 ≤ ((heldTwo n).link (.window .w3)).countKind .held ∧ ((heldTwo n).link (.window .w3)).countKind .owed = n) ∧
    (let s : State := { busy [heldEntry 1] none .reply [] with power := .starting ⟨false, .power, 0⟩ }
     (s.link (.window .w3)).discarding = false ∧ (s.link (.window .w3)).countKind .held = 1) := by decide

theorem witness_TakenRequestsAnswered : base.Listens .office ∧ requestKind .read = some (.office, 17) ∧
    (busy [heldEntry 1] none .reply []).Listens (.window .w3) ∧
    ∃ t, exec .read base = .next t ∧ base.Replied t .office (.refused 17 .wrongState) := by
  unfold State.Listens; exact ⟨by decide, rfl, by decide, _, rfl, by unfold State.Replied; decide⟩

theorem witness_ChargeFollowsStages : (500000 : Nat) ≤ 500000 ∧ (⟨10000, .five, 65535, false⟩ : DiscountEntry).rate ≤ 10000 ∧
    (chargeOf ⟨3333, .five, 500, false⟩ 1235).rnd = true ∧ (chargeOf ⟨9000, .down, 300, false⟩ 250).min = true := by decide

/-- 31 active jobs, `k` of them window 2's, and window 2's shift OPEN. -/
def crowd (n k : Nat) : State :=
  { opened .w2 base with
    jobs := (List.range n).map fun i =>
      { ticketJob (BitVec.ofNat 8 i) with tag := ⟨if i < k then .w2 else if i < k + 8 then .w3 else if i < k + 16 then .w4
        else .w5, BitVec.ofNat 8 i⟩ } }

def oneLine : IssueReq := ⟨1, 1, 0xFFFFFF, 90, 0, 0, [], [⟨2, 1, 1800, 0⟩]⟩

/-- What `formCheck` makes of an ISSUE body. -/
def content (r : IssueReq) : IssueContent :=
  match formCheck r with
  | .ok c => c
  | .error _ => ⟨.ticket, .cash, none, [], 0, none, []⟩

theorem witness_IssueAccepted : ∀ s ∈ [opened .w2 base, crowd 31 7], s.Listens (.window .w2) ∧
    formCheck oneLine = .ok (content oneLine) ∧ (s.shift .w2).state = .opened ∧
    privileged (s.window .w2).profile s.fare s.fare.active (content oneLine) = true ∧ s.jobs.length < 32 ∧ s.load .w2 < 8 ∧
    refusingCode (s.window .w2).profile
      (price s.fare s.fare.active (s.window .w2).profile.limit (content oneLine)).conds = none := by
  unfold State.Listens
  have h : formCheck oneLine = .ok (content oneLine) := rfl
  intro s hs
  refine ⟨?_, h, ?_⟩
  all_goals
    rcases List.mem_cons.mp hs with rfl | hs
    · decide
    · cases List.mem_singleton.mp hs; decide

/-- Bodies at the bounds of R6 and R7, where the form check turns. -/
theorem witness_IssueRefusedInOrder_forms :
    ([{ oneLine with lines := List.replicate 5 ⟨2, 1, 1800, 0⟩ }, { oneLine with route := List.replicate 17 65 },
      { oneLine with coach := 65, seat := 1 }, { oneLine with stock := 2, seat := 1 }, { oneLine with tender := 5 },
      { oneLine with stock := 2, supplement := 50001 }, { oneLine with stock := 2, coach := 91, seat := 1 },
      { oneLine with stock := 2, coach := 90, seat := 99 }, { oneLine with route := List.replicate 16 126 },
      { oneLine with lines := [⟨2, 9, 500000, 31⟩] }, { oneLine with lines := [⟨2, 10, 500000, 31⟩] }] : List IssueReq).map (fun r =>
        match formCheck r with | .error e => some e | .ok _ => none) =
      [some .badForm, some .badForm, some .badForm, some .badForm, some .badValue, some .badValue, some .badValue, none, none, none,
        some .badValue] := by decide

/-- The states in which each check of an ISSUE is the first to fail, in their order. -/
theorem witness_IssueRefusedInOrder : base.Listens (.window .w2) ∧ formCheck { oneLine with lines := [] } = .error .badForm ∧
    formCheck { oneLine with stock := 3 } = .error .badValue ∧ (base.shift .w2).state ≠ .opened ∧
    (let s := opened .w2 (base.modWindow .w2 fun r => { r with profile := ⟨0, 500000⟩ })
     s.Listens (.window .w2) ∧ privileged (s.window .w2).profile s.fare s.fare.active (content couponJob) = false ∧
      refusingCode (s.window .w2).profile
        (price s.fare s.fare.active 1799 (content oneLine)).conds = some .condBig) ∧
    (crowd 32 7).Listens (.window .w2) ∧ 32 ≤ (crowd 32 7).jobs.length ∧
    (crowd 31 8).Listens (.window .w2) ∧ (crowd 31 8).jobs.length < 32 ∧ 8 ≤ (crowd 31 8).load .w2 := by
  unfold State.Listens
  exact ⟨by decide, rfl, rfl, by decide⟩

theorem witness_CancelByTag_staged : (staged.findJob ⟨.w1, 15⟩).map (fun j => (j.state, j.printer)) = some (.staged, some .p1) ∧
    (staged.printer .p1).staged = some ⟨.w1, 15⟩ ∧ (staged.mag ⟨.p1, .ticket⟩).committed = 1 := by decide

theorem witness_CancelByTag : (∀ s ∈ [queued, staged, feeding, issued], s.Listens (.window .w1)) ∧
    (queued.findJob ⟨.w1, 15⟩).map (·.state) = some .queued ∧ (staged.findJob ⟨.w1, 15⟩).map (·.state) = some .staged ∧
    (feeding.findJob ⟨.w1, 15⟩).map (·.state) = some .feeding ∧ issued.findJob ⟨.w1, 15⟩ = none ∧
    ∃ e ∈ (issued.window .w1).recent, e.tag = ⟨.w1, 15⟩ := by unfold State.Listens; decide

theorem witness_ReadsOnlyReply : queued.Listens (.window .w1) ∧ queued.Listens .office ∧ (queued.findJob ⟨.w1, 15⟩).isSome = true ∧
    (issued.window .w1).recent.length = 1 ∧ (crowd 16 8).Listens .office ∧ (crowd 16 8).jobs.length = 16 ∧
    (crowd 32 8).Listens .office ∧ (crowd 32 8).jobs.length = 32 ∧ base.jobs.length = 0 := by unfold State.Listens; decide

/-- Each section of the office form, with an index it takes and one it does not (R188). -/
theorem witness_ReadsOnlyReply_sections : [(2, 4), (2, 5), (4, 8), (4, 9), (7, 6), (7, 0), (8, 0), (8, 1), (9, 0)].map (fun x =>
      (fullList.statusSection x.1 x.2).isSome) = [true, false, true, false, true, false, true, false, false] ∧
    fullList.waitOrder = [.w3, .w5] ∧ fullList.cashUpView.waiting.map (fun x => (x.1, x.2.1)) = [(.w3, 1), (.w5, 2)] ∧
    (staged.printer .p1).staged = some ⟨.w1, 15⟩ ∧ (staged.findJob ⟨.w1, 15⟩).isSome = true ∧
    (queued.windowStatus .w1).noPrinter = true := by decide

/-- `issued` before each check of a VOID that fails, and the last minute of the void period. -/
theorem witness_VoidByChecks : (∀ s ∈ [issued, { issued with clock := ⟨0, 10, true⟩ }, { issued with clock := ⟨0, 11, true⟩ }],
      s.Listens (.window .w1) ∧ (s.window .w1).profile.void = true ∧ (s.shift .w1).state = .opened ∧
      ((s.window .w1).recent.find? fun e => e.tag = ⟨.w1, 15⟩ ∧ e.voided = false) =
        some ⟨⟨.w1, 15⟩, .ticket, 4210, 1800, .cash, ⟨0, 0, true⟩, false⟩ ∧ s.free ≠ 0 ∧ s.voidable .ticket 4210 = true) ∧
    ageOf ⟨0, 0, true⟩ ⟨0, 10, true⟩ = issued.voidPeriod ∧ ageOf ⟨0, 0, true⟩ ⟨0, 11, true⟩ = issued.voidPeriod + 1 ∧
    ageOf ⟨65535, 1439, false⟩ ⟨0, 9, false⟩ = 10 ∧
    ({ issued with exceptions := List.replicate 64 ⟨.ticket, 1, .spoiled, .jam, none, none, ⟨0, 0, true⟩⟩ } : State).free = 0 ∧
    issued.voidable .coupon 4210 = false ∧ issued.voidable .ticket 4211 = false := by unfold State.Listens; decide

/-! ### Witnesses: shifts, the clock, the starts, the cursor -/

/-- CLOSED with a carried notice that stays and a recent issue's that goes. -/
theorem witness_OpenAndCloseShift_notices :
    let s := busy [] none .reply [carriedNotice 254, ⟨.recent 3, (carriedNotice 3).notice⟩]
    s.Listens (.window .w3) ∧ (s.shift .w3).state = .closed ∧
      (s.window .w3).notices.filter (·.outlivesShift) = [carriedNotice 254] := by unfold State.Listens; decide

theorem witness_OpenAndCloseShift : base.Listens (.window .w1) ∧ (base.shift .w1).state = .closed ∧
    worked.Listens (.window .w1) ∧ (worked.shift .w1).state = .opened ∧ queued.Listens (.window .w1) ∧ (queued.shift .w1).active = 1 ∧
    fullList.Listens (.window .w3) ∧ (fullList.shift .w3).state = .listWait := by unfold State.Listens; decide

/-- CLOSING with a job, DECLARING without, an ended declaration, a full list, and a record of the same shift number. -/
theorem witness_DeclareAndDeclareEnd :
    let closing := queued.modShift .w1 fun h => { h with state := .closing }
    let full := (fullList.modShift .w1 fun h => { h with state := .declaring, number := 2 })
    closing.Listens (.window .w1) ∧ (closing.shift .w1).takesDeclarations ∧ 0 < (closing.shift .w1).active ∧
      declaring.Listens (.window .w1) ∧ (declaring.shift .w1).takesDeclarations ∧ declaring.waitOrder = [] ∧
      declaring.cashUps = [] ∧ ¬(worked.shift .w1).takesDeclarations ∧ full.Listens (.window .w1) ∧
      (full.shift .w1).takesDeclarations ∧ full.cashUps.length = 12 := by
  unfold State.Listens ShiftRec.takesDeclarations; decide

/-- A variance at each threshold and past it, a held tender, an absent one. -/
theorem witness_CashUpFigures :
    [(30940 : Nat), 30939, 31340, 31341].map (fun d =>
      let r := (cashUpOf .w2 { cashUpShift none none none with declared := ⟨some d, none, none, none⟩ } base.tolerance).tender.cash
      (r.variance, r.result)) =
      [(some (-200), .balanced), (some (-201), .short), (some 200, .balanced), (some 201, .over)] ∧
    ((cashUpOf .w2 { cashUpShift none none none with
        sticky := ⟨false, false, false, false, false, true⟩
        tallies := ⟨⟨⟨65535, 0⟩, ⟨1, 999999999⟩, ⟨0, 0⟩, ⟨0, 0⟩⟩, 0, 0, ⟨0, 0⟩, 0⟩
        declared := ⟨some 5000, some 0, none, none⟩ } base.tolerance).tender.cash.result = .unordered) := by decide

theorem witness_ClockSetAndAdvanced : base.Listens .office ∧ (1439 : Half).toNat ≤ 1439 ∧ 1439 < (1440 : Half).toNat ∧
    base.clock.minute ≤ 1439 ∧ ({ base with clock := ⟨65535, 1439, false⟩ } : State).clock.minute ≤ 1439 := by
  unfold State.Listens; decide

theorem witness_OfficeStartsBegin : base.Listens .office ∧ (∀ w, (base.shift w).state = .closed) ∧
    (∀ m, (base.mag m).state = .empty) ∧ base.cashUps = [] ∧ worked.Listens .office ∧ (worked.shift .w1).state ≠ .closed := by
  unfold State.Listens
  exact ⟨by decide, fun w => by cases w <;> rfl, fun ⟨p, k⟩ => by cases p <;> cases k <;> rfl, rfl, by decide, by decide⟩

theorem witness_SuppliesComeAndGo : ({ base with power := .off } : State).power = .off ∧ feeding.power ≠ .off := by decide

/-- The four starts, as they begin with W1-015 FEEDING. -/
def starting (warm : Bool) (cause : StartCause) : State := { after .mainSupplyLoss feeding with power := .starting ⟨warm, cause, 0⟩ }

theorem witness_ColdStartCompletes : (starting false .power).power = .starting ⟨false, .power, 0⟩ ∧
    (starting false .office).power = .starting ⟨false, .office, 0⟩ := by decide

theorem slots_starting (c : StartCause) : (starting true c).SlotsLawful := by
  refine ⟨timers_of (fun p _ => by cases p <;> rfl) (fun p => .inl (by cases p <;> rfl)), rfl,
    fun p => by cases c <;> cases p <;> decide, fun j hj _ => ?_, fun ⟨p, k⟩ => by cases c <;> cases p <;> cases k <;> decide⟩
  have : j = { ticketJob 15 with state := .feeding, printer := some .p1 } := List.mem_singleton.mp hj
  subst this
  rfl

theorem table_starting (c : StartCause) : (starting true c).TableLawful :=
  table_of (fun w => by cases w <;> rfl) (fun w => by cases w <;> rfl) (by show 1 ≤ 8; decide) (by cases c <;> decide)
    (by show 0 ≤ 56; decide)

/-- A start with a job in each state: W1-010 to W1-015, the last FEEDING from 1T, the others beside it. -/
def mixed : State :=
  { starting true .power with
    jobs := [{ ticketJob 10 with state := .queued }, { ticketJob 11 with state := .staged, printer := some .p2 },
      { ticketJob 12 with state := .printing, printer := some .p3, serial := some 100 },
      { ticketJob 13 with state := .delivering, printer := some .p4, serial := some 200 },
      { ticketJob 14 with state := .inDoubt, printer := some .p1, serial := some 4209 },
      { ticketJob 15 with state := .feeding, printer := some .p1 }]
    exceptions := [⟨.ticket, 4209, .inDoubt, .jam, some ⟨.w1, 14⟩, none, ⟨0, 0, true⟩⟩]
    faults := ⟨[fault 501 .opened, fault 502 .capturing], 5, false, 503⟩ }

/-- The log of a warm start: its records in their order, the CAPTURING one closed short, and the RESTART record (R145). -/
theorem test_startComplete_log : (after .startComplete mixed).faults.records.map (fun r => (r.number, r.kind, r.state)) =
    [(501, .noResponse, .opened), (502, .noResponse, .opened), (503, .restart, .opened)] := by decide

theorem witness_WarmStartCompletes :
    (∀ c, (starting true c).power = .starting ⟨true, c, 0⟩ ∧ (starting true c).TableLawful ∧ (starting true c).SlotsLawful) ∧
    mixed.power = .starting ⟨true, .power, 0⟩ ∧ mixed.TableLawful ∧ mixed.SlotsLawful ∧
    mixed.jobs.countP (·.feedsFrom ⟨.p1, .ticket⟩) = 1 ∧ (mixed.stock.get .ticket).spoiled ≤ 999999 := by
  refine ⟨fun c => ⟨by cases c <;> rfl, table_starting c, slots_starting c⟩, rfl,
    table_of (fun w => by cases w <;> rfl) (fun w => by cases w <;> rfl) (by decide) (by decide) (by decide),
    ⟨timers_of (fun p _ => by cases p <;> rfl) (fun p => .inl (by cases p <;> rfl)), rfl, fun p => by cases p <;> decide,
      fun j hj => ?_, fun ⟨p, k⟩ => by cases p <;> cases k <;> decide⟩, by decide, by decide⟩
  revert j; decide

theorem witness_CursorSelectsAndReads : base.Listens .office ∧ base.cursor.selection = none ∧ logged.Listens .office ∧
    logged.cursor.selection = some .faultLog ∧ (logged.cursorRecords .faultLog).length = 3 ∧
    (cursorListOf 7 1, cursorModeOf 2) = (some (.discounts .one), some .random) ∧ cursorListOf 7 2 = none := by
  unfold State.Listens; decide

/-! ### Witnesses: discount pages, settings, stock, printers -/

theorem witness_DiscountWritten : base.Listens .office ∧ base.fare.active = .zero ∧
    (pageOf 1, roundingOf 4, markOf 1) = (some .one, some .five, some true) ∧ (pageOf 2, roundingOf 0, markOf 2) = (none, none, none) := by
  unfold State.Listens; decide

theorem witness_PageSwitched : base.Listens .office ∧ (after .switchPage base).Listens .office := by unfold State.Listens; decide

theorem witness_SettingsClamped : base.Listens .office ∧ (windowOf 6, windowOf 7) = (some .w6, none) ∧
    (tenderOf 4, requiredOf 255, requiredOf 2) = (some .voucher, some none, none) := by unfold State.Listens; decide

theorem witness_WindowFlushed : staged.Listens .office ∧ staged.TableLawful ∧ windowOf 1 = some .w1 ∧ windowOf 0 = none :=
  ⟨⟨rfl, rfl, by decide⟩, table_staged, rfl, rfl⟩

theorem witness_DoubtsResolved : inDoubt.Listens .office ∧ inDoubt.TableLawful ∧
    (inDoubt.findJob ⟨.w1, 15⟩).map (fun j => (j.state, j.shift, j.printer)) = some (JobState.inDoubt, (inDoubt.shift .w1).number, some .p1) ∧
    inDoubt.findJob ⟨.w1, 14⟩ = none ∧ (windowOf 1, resolutionOf 2, resolutionOf 3) = (some .w1, some .spoiled, none) :=
  ⟨⟨rfl, rfl, by decide⟩, table_inDoubt, by decide, rfl, rfl⟩

/-- An IN_DOUBT job of the window's shift, and one of an earlier shift. -/
theorem witness_DoubtsResolved_notices : (∀ j ∈ inDoubt.jobs, j.shift = (inDoubt.shift .w1).number) ∧
    (let s := inDoubt.modShift .w1 fun h => { h with number := 2 }
     s.Listens .office ∧ ∀ j ∈ s.jobs, j.shift ≠ (s.shift .w1).number) := by unfold State.Listens; decide

/-- A pack at the top of the serials, one that shares its last serial with 1T, and a full magazine. -/
theorem witness_PackLoaded : worked.Listens .office ∧ (worked.mag ⟨.p2, .ticket⟩).state = .empty ∧
    (999500 : Three).toNat + (500 : Half).toNat - 1 = 999999 ∧ (worked.mag ⟨.p1, .ticket⟩).pack = some ⟨4200, 4299, 4210⟩ ∧
    (worked.mag ⟨.p1, .ticket⟩).state ≠ .empty ∧ (magOf 3, magOf 9) = (some ⟨.p2, .ticket⟩, none) := by
  unfold State.Listens; decide

theorem witness_PackUnloaded : discrepant.Listens .office ∧ (discrepant.mag ⟨.p2, .ticket⟩).state ≠ .empty ∧
    (discrepant.mag ⟨.p2, .ticket⟩).pack = some ⟨4200, 4205, 4204⟩ ∧ (discrepant.mag ⟨.p2, .ticket⟩).committed = 0 ∧
    discrepant.jobs = [] ∧ (discrepant.exceptions.all fun e => e.disposition ≠ .inDoubt) = true ∧
    feeding.Listens .office ∧ 0 < (feeding.mag ⟨.p1, .ticket⟩).committed ∧ (feeding.mag ⟨.p1, .ticket⟩).pack.isSome = true := by
  unfold State.Listens; decide

theorem witness_MagazineHeldAndReinstated : worked.Listens .office ∧ (worked.mag ⟨.p1, .ticket⟩).state = .active ∧
    (worked.mag ⟨.p2, .ticket⟩).state = .empty ∧ (starting true .power).jobs.length = 1 ∧
    ((after (.hold 1) worked).mag ⟨.p1, .ticket⟩).state = .held .office ∧ (after (.hold 1) worked).Listens .office := by
  unfold State.Listens; decide

theorem witness_StockSettingsSet : worked.Listens .office ∧ (worked.mag ⟨.p1, .ticket⟩).state = .active ∧
    0 < (worked.stock.get .ticket).reload ∧ (∀ p ∈ allPrinters, (worked.mag ⟨p, .coupon⟩).state ≠ .active) ∧
    (stockOf 1, stockOf 2, stockOf 3) = (some .ticket, some .coupon, none) := by unfold State.Listens; decide

theorem witness_CounterAndPacingExpiry : worked.power = .running ∧ (worked.mag ⟨.p1, .ticket⟩).state = .active ∧
    0 < (worked.stock.get .ticket).reload ∧ staged.power = .running ∧ staged.TableLawful ∧
    ∃ j ∈ staged.jobs, j.state = .staged ∧ j.printer = some .p1 ∧ (staged.printer .p1).staged = some j.tag ∧
      (staged.printer .p1).state = .ready ∧ (staged.printer .p1).current = none ∧ (staged.lineRec .p1).pendingCmd = none ∧
      (staged.mag ⟨.p1, j.stock⟩).state = .active ∧ 1 ≤ staged.free :=
  ⟨rfl, rfl, by decide, rfl, table_staged, _, List.mem_singleton.mpr rfl, by decide⟩

theorem witness_PrinterAndRouteSet : staged.Listens .office ∧ (printerOf 4, printerOf 5) = (some .p4, none) ∧
    (windowOf 6, printerOf 2, printerOf 0xFF) = (some .w6, some .p2, none) := by unfold State.Listens; decide

theorem witness_PrinterWithdrawnOrFlushed : staged.Listens .office ∧ (staged.printer .p1).state = .ready ∧
    (staged.printer .p1).staged = some ⟨.w1, 15⟩ ∧ feeding.Listens .office ∧ (feeding.printer .p1).staged = none ∧
    (feeding.printer .p1).current.isSome = true ∧ (after (.withdraw 1) base).Listens .office ∧
    ((after (.withdraw 1) base).printer .p1).state = .withdrawn ∧ staged.TableLawful ∧
    (∃ j ∈ staged.jobs, (staged.printer .p1).staged = some j.tag) ∧
    (staged.modPrinter .p1 fun r => { r with state := .withdrawn, returnMark := false }).TableLawful :=
  ⟨⟨rfl, rfl, by decide⟩, rfl, rfl, ⟨rfl, rfl, by decide⟩, rfl, rfl, ⟨by decide, by decide, by decide⟩, by decide, table_staged,
    ⟨_, List.mem_singleton.mpr rfl, rfl⟩, table_staged⟩

/-- FAULTED without and with the return mark, READY, OFFLINE; the flag clear, a printer of another window. -/
theorem witness_ReturnMarkGiven : faulted.Listens .office ∧ faulted.Listens (.window .w1) ∧
    (faulted.printer .p1).state = .faulted .exitJam ∧ (faulted.printer .p1).returnMark = false ∧
    ((after (.returnPrinter 1) faulted).printer .p1).returnMark = true ∧ (worked.printer .p1).state = .ready ∧
    (faulted.window .w1).profile.clearPrinter = true ∧ (worked.window .w1).profile.clearPrinter = false ∧
    (faulted.routes.get .w1) = ⟨.p1, some .p2⟩ := by unfold State.Listens; decide

/-! ### Witnesses: the fault log, profiles, cash-up -/

theorem witness_RecordsAcknowledged : logged.Listens .office ∧ logged.faults.records[0]? = some (fault 501 .opened) ∧
    logged.faults.records[1]? = some (fault 502 .capturing) ∧ logged.faults.records[2]? = some (fault 510 .acknowledged) ∧
    (logged.faults.records.map (·.number)).Nodup ∧ ∀ r ∈ logged.faults.records, r.number ≠ 506 := by unfold State.Listens; decide

theorem witness_FlagsUpdatedAndTested : toggled.Listens .office ∧ (windowOf 4, windowOf 7) = (some .w4, none) ∧
    (511 : Half).toNat < 512 ∧ 512 ≤ (512 : Half).toNat ∧ (1 : Half) ≠ 0 := by unfold State.Listens; decide

theorem witness_ShiftForcedClosed : base.Listens .office ∧ (base.shift .w1).state = .closed ∧ queued.Listens .office ∧
    (queued.shift .w1).state = .opened ∧ 0 < (queued.shift .w1).active ∧ worked.Listens .office ∧ (worked.shift .w1).active = 0 ∧
    worked.waitOrder = [] ∧ worked.cashUps = [] ∧
    (let s := delivering.modShift .w1 fun h => { h with state := .closing, ended := true, forced := true }
     s.Listens .office ∧ (s.shift .w1).state = .closing ∧ (s.shift .w1).ended = true ∧ (s.shift .w1).forced = true) := by
  unfold State.Listens; decide

theorem witness_SnapshotsLatchedAndRead : latched.Listens .office ∧ (latched.window .w1).snapshot.isSome = true ∧
    (latched.window .w2).snapshot = none ∧ (windowSetOf 63).map (·.length) = some 6 ∧ windowSetOf 64 = none ∧ windowSetOf 0 = some [] ∧
    (latchPartOf 3, latchPartOf 4) = (some .both, none) := by unfold State.Listens; decide

theorem witness_RecordCollected : listed.Listens .office ∧ (listed.cashUps.find? fun r => r.collected = false) = some (record .w1 80 false) ∧
    (listed.cashUps.find? fun r => r.window = .w2 ∧ r.shift = 36) = some (record .w2 36 true) ∧ base.cashUps = [] := by
  unfold State.Listens; decide

theorem shifts_fullList : fullList.ShiftsLawful := by
  refine ⟨fun w => by cases w <;> rfl, fun j hj => ?_, fun w => by cases w <;> decide, by decide, fun w => by cases w <;> decide⟩
  exact absurd hj List.not_mem_nil

theorem witness_RecordReleased : fullList.Listens .office ∧ fullList.ShiftsLawful ∧
    (fullList.cashUps.find? fun r => r.window = .w1 ∧ r.shift = 80) = some (record .w1 80 true) ∧ fullList.waitOrder = [.w3, .w5] ∧
    (fullList.cashUps.find? fun r => r.window = .w1 ∧ r.shift = 81) = none :=
  ⟨⟨rfl, rfl, by decide⟩, shifts_fullList, by decide, rfl, by decide⟩

/-! ### Witnesses: links, the printer line, outcomes -/

theorem witness_MessagesNotTaken : base.Listens .office ∧ base.power ≠ .off ∧
    (∀ n ∈ [3, 4], (heldTwo n).power ≠ .off ∧ ((heldTwo n).link (.window .w3)).discarding = false ∧
      2 ≤ ((heldTwo n).link (.window .w3)).countKind .held ∧ ((heldTwo n).link (.window .w3)).countKind .owed = n) ∧
    (starting true .power).power = .starting ⟨true, .power, 0⟩ ∧ ((starting true .power).link .office).discarding = false ∧
    ((starting true .power).link .office).countKind .held < 2 := by unfold State.Listens; decide

theorem witness_TransmitterArbitrates :
    let s := busy [heldEntry 1, heldEntry 10] (some (.notice (carriedNotice 254).notice)) .notice [carriedNotice 0]
    let t := busy [heldEntry 1] (some (.reply (heldEntry 1).reply)) .reply []
    (s.link (.window .w3)).sending = some (.notice (carriedNotice 254).notice) ∧
      (t.link (.window .w3)).sending = some (.reply (heldEntry 1).reply) := by decide

theorem witness_TurnBegins : worked.power = .running ∧ worked.turn = none ∧ (worked.lineRec worked.rotation).pendingCmd = none ∧
    printPending.power = .running ∧ printPending.turn = none ∧
    (printPending.lineRec printPending.rotation).pendingCmd = some (.print printCmd) ∧
    (let s := after (.returnPrinter 1) faulted
     s.power = .running ∧ s.turn = none ∧ (s.lineRec s.rotation).pendingCmd = some .clear) := by decide

/-- A reply with an event to a synchronised printer, and one without events to a printer out of synchronism. -/
theorem witness_GoodReplyTaken : running.turn = some ⟨.p1, ⟨6, false⟩, .poll, false⟩ ∧
    (typeReply (status [jobEvent 7 1 0 0xFFFFFF])).map (·.events) = some [(7, .fed ⟨.w1, 15⟩ none)] ∧
    (typeReply (status (List.replicate 4 (jobEvent 7 1 0 0xFFFFFF)))).isSome = true ∧
    (typeReply (status (List.replicate 5 (jobEvent 7 1 0 0xFFFFFF)))).isNone = true ∧
    (turned .poll base).turn = some ⟨.p1, ⟨6, false⟩, .poll, false⟩ ∧ ((turned .poll base).lineRec .p1).synced = false ∧
    (typeReply (status [])).map (·.events) = some [] := by decide

/-- A duplicate of event 6 leaves no trace entry; event 7 of a job that is elsewhere leaves that and nothing else (R43, R98). -/
theorem test_events_ignored :
    [6, 7].map (fun n =>
      let t := after (.goodReply (status [jobEvent n 3 0 0xFFFFFF])) (turned .poll feeding)
      ((t.lineRec .p1).ring.map (·.kind), (t.lineRec .p1).lastTaken, t.jobs.map (·.state))) =
      [([], 6, [.feeding]), ([.ejected], 7, [.feeding])] := by decide

/-- Duplicates at the distances 0, 5 and 15 and behind a taken event; distances 1 and 4; an event that matches no job; a live
PRINT answered by its own FED and a live CLEAR. -/
theorem witness_GoodReplyTaken_events :
    ((turned .poll feeding).lineRec .p1).synced = true ∧ ((turned .poll feeding).lineRec .p1).lastTaken = 6 ∧
    [6, 11, 5, 7, 10].map (fun n : EventNo => (n - 6).toNat) = [0, 5, 15, 1, 4] ∧
    (typeReply (status [jobEvent 7 1 0 0xFFFFFF, jobEvent 6 3 0 0xFFFFFF])).map (·.events) =
      some ([(7, .fed ⟨.w1, 15⟩ none)] ++ (6, .ejected ⟨.w1, 15⟩) :: []) ∧ ((6 : EventNo) - 7).toNat = 15 ∧
    (∀ j ∈ (turned .poll feeding).jobs, j.state ≠ .delivering) ∧
    (let s := turned (.print printCmd) (after .print printPending)
     s.turn = some ⟨.p1, ⟨6, false⟩, .print printCmd, true⟩ ∧ (s.lineRec .p1).pendingCmd = some (.print printCmd)) ∧
    (let s := after .clear (after (.returnPrinter 1) faulted)
     s.turn = some ⟨.p1, ⟨6, false⟩, .clear, true⟩ ∧ (s.lineRec .p1).pendingCmd = some .clear) := by decide

/-- A live PRINT of the current job, in a lawful state, and a CLEAR without one. -/
theorem witness_GoodReplyTaken_sent :
    (turned (.print printCmd) printPending).TableLawful ∧ (turned (.print printCmd) printPending).SlotsLawful ∧
    (let s := (turned .clear worked).modLine .p1 fun r => { r with pendingCmd := some .clear }
     s.turn.map (·.live) = some true ∧ s.TableLawful ∧ s.SlotsLawful) :=
  ⟨table_feeding, slots_printPending, rfl, table_worked, timers_of (fun p _ => by cases p <;> rfl) (fun p => by cases p <;> decide), slots_worked.2⟩

/-- Printer 1 in a state, with its turn's command and its return mark. -/
def shown (st : PrinterState) (mark : Bool) (c : TurnCmd) : State :=
  turned c (worked.modPrinter .p1 fun r => { r with state := st, returnMark := mark })

/-- The rows of R85, taken: an OFFLINE printer with its cover open is FAULTED; a WITHDRAWN one stays but in the reply to a
CLEAR; a FAULTED one changes kind with another latched fault; COVER_OPEN goes with the cover closed. -/
theorem test_marks : [(shown .offline false .poll, 1, 0), (shown .withdrawn true .poll, 0, 0), (shown .withdrawn true .clear, 0, 0),
      (shown (.faulted .feedJam) false .poll, 8, 2), (shown (.faulted .coverOpen) false .poll, 0, 0),
      (shown (.faulted .exitJam) false .poll, 0, 0), (shown (.faulted .exitJam) true .clear, 1, 0)].map (fun x =>
        ((after (.goodReply ⟨x.2.1, x.2.2, 0, []⟩) x.1).printer .p1).state) =
      [.faulted .coverOpen, .withdrawn, .ready, .faulted .exitJam, .ready, .faulted .exitJam, .faulted .coverOpen] := by decide

/-- Each printer state, with the turn that answers its return mark and one that does not, and the latched kinds. -/
theorem witness_GoodReplyTaken_marks :
    (∀ st ∈ [PrinterState.ready, .offline, .withdrawn, .faulted .coverOpen, .faulted .exitJam], ∀ mark ∈ [true, false],
      ∀ c ∈ [TurnCmd.poll, .clear], let s := shown st mark c
      (s.turn.map (fun u => (u.printer, u.cmd)) = some (.p1, c)) ∧ (s.printer .p1).state = st ∧ (s.printer .p1).returnMark = mark) ∧
    (typeReply ⟨8, 2, 0, []⟩).map (·.latched) = some (some .exitJam) ∧ (typeReply ⟨1, 0, 0, []⟩).map (·.cover) = some true := by
  decide

/-- The third miss, with a current job, and with its PRINT or a CLEAR pending; each cause, and a reply of another form. -/
theorem witness_TurnMissed : (turned .poll feeding).turn = some ⟨.p1, ⟨6, false⟩, .poll, false⟩ ∧
    ((turned .poll feeding).lineRec .p1).misses = 0 ∧ typeReply ⟨8, 0, 0, []⟩ = none ∧
    (let s := (turned .poll feeding).modLine .p1 fun r => { r with misses := 2, pendingCmd := some (.print printCmd) }
     s.turn.isSome = true ∧ (s.lineRec .p1).misses = 2 ∧ s.power = .running ∧ s.TableLawful ∧ s.SlotsLawful ∧
      (s.printer .p1).current = some ⟨⟨.w1, 15⟩, 4210, false⟩ ∧
      s.CurrentIs .p1 ⟨some .feeding, some ⟨.w1, 15⟩, none, none, some ⟨.p1, .ticket⟩⟩ ∧
      ∃ j ∈ s.jobs, j.tag = ⟨.w1, 15⟩) ∧
    (let s := (turned .poll worked).modLine .p1 fun r => { r with misses := 2, pendingCmd := some .clear }
     s.TableLawful ∧ s.SlotsLawful ∧ (s.lineRec .p1).misses = 2 ∧ s.CurrentIs .p1 ⟨none, none, none, none, none⟩) :=
  ⟨rfl, rfl, by decide,
    ⟨rfl, rfl, rfl, table_feeding,
      ⟨timers_pending (fun p => by cases p <;> decide) (fun p => by cases p <;> decide) rfl rfl, slots_feeding.2⟩, rfl,
      ⟨_, List.mem_singleton.mpr rfl, rfl, rfl⟩, _, List.mem_singleton.mpr rfl, rfl⟩,
    table_worked, ⟨timers_of (fun p _ => by cases p <;> rfl) (fun p => by cases p <;> decide), slots_worked.2⟩, rfl, rfl⟩

/-- A job with its home printer eligible, and one whose home printer has no ACTIVE magazine and its alternate has. -/
theorem witness_OpportunityStagesByRouting :
    (worked.firstStageable [] [ticketJob 15] = some (ticketJob 15, .p1) ∧
      ({ queued with jobs := [ticketJob 15] }.opportunity []).jobs = [] ++ ticketJob 15 :: []) ∧
    (let s := withJobs [ticketJob 15] (filled ⟨.p2, .ticket⟩ 1 5 1 (ready .p2 (opened .w1 base)))
     (s.printer .p2).state = .ready ∧ (s.printer .p2).staged = none ∧ (s.mag ⟨.p2, .ticket⟩).state = .active ∧
      (s.mag ⟨.p2, .ticket⟩).committed < (s.mag ⟨.p2, .ticket⟩).remaining ∧ s.routes.get .w1 = ⟨.p1, some .p2⟩ ∧
      (s.printer .p1).state ≠ .ready ∧ (s.window .w1).profile.flags.getLsbD 4 = true ∧
      s.jobs = [] ++ ticketJob 15 :: [] ∧ (s.dispatch 4).1 = [.p2]) := ⟨⟨rfl, rfl⟩, by decide⟩

/-- A FED without a sighting, with the expected serial, and with the next one. -/
theorem witness_FedDrawsTheBlank :
    (turned .poll feeding).power = .running ∧ (turned .poll feeding).TableLawful ∧ (turned .poll feeding).SlotsLawful ∧
    [0xFFFFFF, 4210, 4211].map (fun x => (typeReply (status [jobEvent 7 1 0 x])).map (·.events)) =
      [none, some 4210, some 4211].map (fun x => some [(7, .fed ⟨.w1, 15⟩ x)]) ∧
    isNew 7 ((turned .poll feeding).lineRec .p1).lastTaken = true ∧
    (turned .poll feeding).jobs.map (fun j => (j.tag, j.printer, j.state)) = [(⟨.w1, 15⟩, some .p1, .feeding)] ∧
    ((turned .poll feeding).printer .p1).current = some ⟨⟨.w1, 15⟩, 4210, false⟩ :=
  ⟨rfl, table_feeding, slots_feeding, by decide, rfl, rfl, rfl⟩

/-- One event of a magazine. -/
def magEvent (kind : Byte) (serial : Three) : StatusReply := status [⟨7, kind, 1, 0, 0, serial⟩]

/-- MAG_OPEN and MAG_CLOSED of 1T (R52, R53), and 1T shown empty (R54), each with its record. -/
theorem test_magazine_events :
    [magEvent 5 0xFFFFFF, magEvent 6 4210, magEvent 6 4211, ⟨64, 0, 0, []⟩].map (fun r =>
      let t := after (.goodReply r) (turned .poll worked)
      ((t.mag ⟨.p1, .ticket⟩).state, t.faults.records.map (·.kind))) =
      [(.held .opened, [.magazineOpened]), (.active, []), (.discrepant, [.magazineDiscrepant]), (.discrepant, [.magazineDiscrepant])] := by
  decide

/-- The events and marks as the reply types them; an ACTIVE magazine with a current job, and with none. -/
theorem witness_FedDrawsTheBlank_magazines :
    [magEvent 5 0xFFFFFF, magEvent 6 4210, magEvent 6 4211, magEvent 6 0xFFFFFF].map (fun r => (typeReply r).map (·.events)) =
      [[(7, .magOpen .ticket)], [(7, .magClosed .ticket (some 4210))], [(7, .magClosed .ticket (some 4211))],
        [(7, .magClosed .ticket none)]].map some ∧
    (typeReply ⟨64, 0, 0, []⟩).map (fun v => (v.events, v.emptyTicket, v.emptyCoupon)) = some ([], true, false) ∧
    ((turned .poll worked).mag ⟨.p1, .ticket⟩).state = .active ∧ ((turned .poll worked).mag ⟨.p1, .coupon⟩).state = .empty ∧
    (turned .poll worked).TableLawful ∧ (turned .poll worked).SlotsLawful ∧
    (turned .poll worked).CurrentIs .p1 ⟨none, none, none, none, none⟩ :=
  ⟨by decide, by decide, rfl, rfl, table_worked, slots_worked, rfl⟩

theorem witness_PrintedThenEjectedIssues :
    (turned .poll printing).power = .running ∧ (turned .poll printing).TableLawful ∧ (turned .poll printing).SlotsLawful ∧
    (typeReply (status [jobEvent 7 2 0 0xFFFFFF])).map (·.events) = some [(7, .printed ⟨.w1, 15⟩)] ∧
    isNew 7 ((turned .poll printing).lineRec .p1).lastTaken = true ∧
    (turned .poll printing).jobs.map (fun j => (j.printer, j.state)) = [(some .p1, .printing)] ∧
    (turned .poll delivering).TableLawful ∧ (turned .poll delivering).SlotsLawful ∧
    (typeReply (status [jobEvent 7 3 0 0xFFFFFF])).map (·.events) = some [(7, .ejected ⟨.w1, 15⟩)] ∧
    (turned .poll delivering).jobs.map (fun j => (j.printer, j.state)) = [(some .p1, .delivering)] :=
  ⟨rfl, table_printing, slots_printing, by decide, rfl, rfl, table_delivering, slots_delivering, by decide, rfl⟩

/-- The last job of a CLOSING shift leaves by its EJECTED: the shift is DECLARING, or, its declaration ended, computed and
CLOSED; the oldest of four recent issues goes (R36, R155). -/
theorem test_ejected_closing :
    [false, true].map (fun ended =>
      let t := after (.goodReply (status [jobEvent 7 3 0 0xFFFFFF])) (turned .poll (delivering.modWindow .w1 fun r =>
        { r with
          recent := [1, 2, 3, 4].map fun n => ⟨⟨.w1, n⟩, .ticket, 4200, 1800, .cash, ⟨0, 0, true⟩, false⟩
          shift := { r.shift with state := .closing, ended := ended } }))
      ((t.shift .w1).state, (t.shift .w1).active, t.cashUps.map (·.tender.cash.net), (t.window .w1).recent.map (·.tag.job))) =
    [(.declaring, 0, [], [2, 3, 4, 15]), (.closed, 0, [1800], [2, 3, 4, 15])] := by decide

/-- A CLOSING shift with one job, its declaration ended or not; with two it stays CLOSING. -/
theorem witness_JobsLeft : ∀ ended ∈ [true, false],
    (let s := staged.modShift .w1 fun h => { h with state := .closing, ended := ended }
     s.Listens (.window .w1) ∧ s.Listens .office ∧ s.jobs.countP (fun j => j.tag.window = .w1) = 1 ∧ (s.shift .w1).state = .closing ∧
       (s.shift .w1).active - 1 = 0) ∧
    (let s := delivering.modShift .w1 fun h => { h with state := .closing, active := 2, ended := ended }
     (s.shift .w1).active - 1 = 1) := by unfold State.Listens; decide

/-- Two CLOSING shifts that a start leaves without jobs, one with its declaration ended. -/
theorem witness_WarmStartCompletes_closing :
    let s := ((starting true .power).modShift .w2 fun h => { h with state := .closing }).modShift .w3 fun h =>
      { h with state := .closing, ended := true }
    s.waitOrder = [] ∧ roomFor s.cashUps (cashUpOf .w3 (s.shift .w3) s.tolerance) ∧ s.activeJobs .w2 = 0 ∧
      ((after .startComplete s).shift .w2).state = .declaring ∧ ((after .startComplete s).shift .w3).state = .closed := by
  unfold roomFor; decide

theorem slots_staged : staged.SlotsLawful := by
  refine ⟨timers_of (fun p _ => by cases p <;> rfl) (fun p => .inl (by cases p <;> rfl)),
    ⟨fun p t ht => ?_, fun x hx _ => ?_⟩, ⟨fun p t ht => ?_, fun x hx h => ?_⟩, fun ⟨p, k⟩ => by cases p <;> cases k <;> decide⟩
  · cases p <;> cases ht
    exact ⟨_, List.mem_singleton.mpr rfl, rfl, rfl, rfl⟩
  · cases List.mem_singleton.mp hx; exact ⟨.p1, rfl, rfl, rfl⟩
  · cases p <;> cases ht
  · cases List.mem_singleton.mp hx; exact absurd h (by decide)

/-- A stage limit in each stage of the current slot. -/
theorem witness_CurrentJobFails : ∀ s ∈ [feeding, printing, delivering], s.power = .running ∧ s.TableLawful ∧ s.SlotsLawful ∧
    (s.printer .p1).timer.isSome = true ∧ (s.printer .p1).current = some ⟨⟨.w1, 15⟩, 4210, false⟩ ∧
    ∃ j ∈ s.jobs, j.tag = ⟨.w1, 15⟩ := by
  intro s hs
  rcases List.mem_cons.mp hs with rfl | hs
  · exact ⟨rfl, table_feeding, slots_feeding, rfl, rfl, _, List.mem_singleton.mpr rfl, rfl⟩
  · rcases List.mem_cons.mp hs with rfl | hs
    · exact ⟨rfl, table_printing, slots_printing, rfl, rfl, _, List.mem_singleton.mpr rfl, rfl⟩
    · cases List.mem_singleton.mp hs
      exact ⟨rfl, table_delivering, slots_delivering, rfl, rfl, _, List.mem_singleton.mpr rfl, rfl⟩

/-- A FAULT without a tag, and with the tag of the current job, of the staged one and of no job of the slots. -/
theorem witness_CurrentJobFails_fault :
    [status [⟨7, 4, 2, 0, 0, 0xFFFFFF⟩], status [jobEvent 7 4 2 0xFFFFFF]].map (fun r => (typeReply r).map (·.events)) =
      [some [(7, .fault .exitJam none)], some [(7, .fault .exitJam (some ⟨.w1, 15⟩))]] ∧
    (∀ s ∈ [turned .poll feeding, turned .poll printing, turned .poll delivering],
      s.jobs.map (fun j => (j.tag, j.printer, j.state.reserved)) = [(⟨.w1, 15⟩, some .p1, true)]) ∧
    (turned .poll staged).TableLawful ∧ (turned .poll staged).SlotsLawful ∧
    (turned .poll staged).jobs.map (fun j => (j.tag, j.printer, j.state)) = [(⟨.w1, 15⟩, some .p1, .staged)] ∧
    (turned .poll worked).jobs = [] ∧
    (turned .poll feeding).CurrentIs .p1 ⟨some .feeding, some ⟨.w1, 15⟩, none, none, some ⟨.p1, .ticket⟩⟩ :=
  ⟨by decide, by decide, table_staged, slots_staged, rfl, rfl, _, List.mem_singleton.mpr rfl, rfl, rfl⟩

/-- A FAULT that names the staged job returns it; one that names a DELIVERING job leaves both IN_DOUBT (R114, R117). -/
theorem test_fault_staged :
    (after (.goodReply (status [jobEvent 7 4 2 0xFFFFFF])) (turned .poll (staged.modMag ⟨.p1, .ticket⟩ fun m =>
      { m with state := .held .opened }))).jobs.map (fun j => (j.state, j.printer)) = [(.queued, none)] ∧
    (after (.goodReply (status [jobEvent 7 4 2 0xFFFFFF])) (turned .poll delivering)).jobs.map (·.state) = [.inDoubt] := by decide

end Sys2Proof.Tests
end

section
/-! SUPPORT. Facts about single operations of the model that more than one statement needs: the step by what waits, the
job table and the shift records, the discount pages, the settings, and the records at reset. -/

namespace Sys2Proof.Machine

/-! ### The step -/

/-- A step with a command waiting runs it. -/
theorem step_of_pending {s : State} {c : Instr} {rest : List Instr} (h : s.pending = c :: rest) :
    step s = exec c { s with pending := rest } := by
  simp only [step, h]

/-- A step with no command waiting takes what comes in on the wires. -/
theorem step_of_arrivals {s : State} {a : Arrival} {rest : List Arrival} (hp : s.pending = []) (ha : s.arrivals = a :: rest) :
    step s = runReceived ({ s with arrivals := rest }.arrive a) := by
  simp only [step, hp, ha]

/-- A step with nothing waiting runs the timed event that is due. -/
theorem step_of_due {s : State} {c : Instr} (hp : s.pending = []) (ha : s.arrivals = []) (hd : s.dueEvent = some c) :
    step s = exec c s := by
  simp only [step, hp, ha, hd]

/-- A step with nothing waiting and nothing due lets time pass. -/
theorem step_of_idle {s : State} (hp : s.pending = []) (ha : s.arrivals = []) (hd : s.dueEvent = none) :
    step s = .next s.tick := by
  simp only [step, hp, ha, hd]

/-- What comes in on the wires changes the receivers alone. -/
theorem State.arrive_receivers (s : State) (a : Arrival) : ∃ ls bs, (s.arrive a).1 = { s with links := ls, heard := bs } := by
  cases a with
  | byte l b =>
    unfold State.arrive State.hearLink
    dsimp only
    split <;> exact ⟨_, _, rfl⟩
  | gap l => exact ⟨_, _, rfl⟩
  | lineByte b =>
    unfold State.arrive State.hearLine
    dsimp only
    split
    · exact ⟨_, _, rfl⟩
    · split <;> exact ⟨_, _, rfl⟩
  | lineIdle =>
    unfold State.arrive State.hearIdle
    dsimp only
    split
    · exact ⟨_, _, rfl⟩
    · split <;> exact ⟨_, _, rfl⟩
  | windowCloses =>
    unfold State.arrive State.closeWindow
    dsimp only
    split <;> exact ⟨_, _, rfl⟩

/-! ### The job table, the shift records and the fault log -/

/-- An update that leaves a property of every job leaves it of the table. -/
theorem State.modJob_map {β : Type} {g : Job → β} {f : Job → Job} (s : State) (k : Tag) (hf : ∀ j, g (f j) = g j) :
    (s.modJob k f).jobs.map g = s.jobs.map g := by
  rw [modJob_jobs, List.map_map]
  refine List.map_congr_left fun j _ => ?_
  dsimp only [Function.comp]
  split
  · exact hf j
  · rfl

/-- The shift record an update changes. -/
theorem State.shift_modShift (s : State) (w : Window) (f : ShiftRec → ShiftRec) : (s.modShift w f).shift w = f (s.shift w) := by
  cases w <;> rfl

/-- Room made for a record leaves the capture lead. -/
theorem FaultLog.makeRoom_lead (l : FaultLog) : l.makeRoom.lead = l.lead := by
  unfold FaultLog.makeRoom
  split
  · rfl
  · split <;> rfl

/-! ### The discount pages (R1 to R4) -/

/-- The write reaches one page, the other stands (R3). -/
theorem FareUnit.page_write (f : FareUnit) (g h : Page) (d : Nat) (e : DiscountEntry) :
    (f.write g d e).page h = if h = g then (f.page g).setIfInBounds d e else f.page h := by
  cases g <;> cases h <;> rfl

/-- The entries of a page after a write: the entry written is new, every other is as it was (R3). -/
theorem FareUnit.entry_write (f : FareUnit) (g h : Page) (d n : Nat) (e : DiscountEntry) (hd : d < 32) :
    (f.write g d e).entry h n = if h = g ∧ n = d then e else f.entry h n := by
  by_cases hg : h = g
  · subst hg
    by_cases hn : n = d
    · subst hn
      simp [FareUnit.entry, FareUnit.page_write, hd]
    · simp [FareUnit.entry, FareUnit.page_write, hn, Ne.symm hn]
  · simp [FareUnit.entry, FareUnit.page_write, hg]

/-- An update of the fare unit alone. -/
theorem setFare_frame {ps : List Part} {s : State} {x : FareUnit} (h : .fare ∈ ps) :
    State.SameOutside ps s { s with fare := x } := by
  refine ⟨rfl, fun q hq => ?_⟩
  cases q
  case fare => exact absurd h hq
  all_goals simp only [State.SameAt, State.mag, State.printer, State.lineRec, State.window, State.link, and_self]

/-! ### Settings in their ranges (R71, R169, R197) -/

/-- A clamped value is at most the high end of its range. -/
theorem clamp_le {low high v : Nat} (h : low ≤ high) : clamp low high v ≤ high :=
  Nat.max_le.mpr ⟨h, Nat.min_le_left _ _⟩

theorem le_clamp {low high v : Nat} : low ≤ clamp low high v := Nat.le_max_left _ _

theorem le_clampInt {low high v : Int} : low ≤ clampInt low high v := Int.le_max_left _ _

theorem clampInt_le {low high v : Int} (h : low ≤ high) : clampInt low high v ≤ high :=
  Int.max_le.mpr ⟨h, Int.min_le_left _ _⟩

/-- A tolerance row stays in range: the fields carried are clamped (R169). -/
theorem Tolerance.carry_inRange {r : Tolerance} (h : r.inRange) (low high : Option Int) (q : Option Bool) :
    (r.carry low high q).inRange := by
  obtain ⟨hl, hl', hh, hh'⟩ := h
  refine ⟨?_, ?_, ?_, ?_⟩
  · cases low
    · exact hl
    · exact le_clampInt
  · cases low
    · exact hl'
    · exact clampInt_le (by decide)
  · cases high
    · exact hh
    · exact le_clampInt
  · cases high
    · exact hh'
    · exact clampInt_le (by decide)

/-- The pacing settings a SET PRINTER carries are clamped to their ranges (R71). -/
theorem PrinterRec.setPacing_inRange {r : PrinterRec} (h : r.inRange) (b m c : Option Nat) : (r.setPacing b m c).inRange := by
  obtain ⟨hb, hm, hm', hc⟩ := h
  refine ⟨?_, ?_, ?_, ?_⟩
  · cases b
    · exact hb
    · exact clamp_le (by decide)
  · cases m
    · exact hm
    · exact le_clamp
  · cases m
    · exact hm'
    · exact clamp_le (by decide)
  · cases c
    · exact hc
    · exact clamp_le (by decide)

/-- The clock one minute on shows a minute of the day (R197). -/
theorem Stamp.tick_minute (c : Stamp) : c.tick.minute < 1440 := by
  unfold Stamp.tick
  split
  · assumption
  · exact Nat.zero_lt_succ _

/-! ### The part as a cold start leaves it (R1, R44, R68, R88, R108, R164, R169, R190) -/

/-- The settings of a part as a cold start leaves it are in range (R61, R62, R71, R124, R137, R146, R169). -/
theorem delivered_settings : State.delivered.SettingsLawful := by
  refine ⟨fun p => ?_, fun k => ?_, fun t => ?_, fun w => ?_, by decide, by decide, by decide⟩
  · cases p <;> simp [PrinterRec.inRange, State.delivered, State.printer, PerPrinter.get, PrinterRec.cleared]
  · cases k <;> simp [StockSettings.inRange, State.delivered, PerStock.get]
  · cases t <;> simp [Tolerance.inRange, State.delivered, PerTender.get]
  · cases w <;> decide

/-- Every entry of both pages is plain after a cold start (R1). -/
theorem delivered_entry (g : Page) (d : Nat) : State.delivered.fare.entry g d = .plain := by
  cases g <;> simp [State.delivered, FareUnit.entry, FareUnit.page, Vector.getElem?_replicate] <;> split <;> rfl

theorem delivered_pages : State.delivered.PagesLawful := fun g => delivered_entry g 0

theorem reset_window (w : Window) : State.reset.window w = .cleared := by cases w <;> rfl
theorem reset_printer (p : Printer) : State.reset.printer p = .cleared := by cases p <;> rfl
theorem reset_lineRec (p : Printer) : State.reset.lineRec p = .cleared := by cases p <;> rfl
theorem reset_mag (m : MagId) : State.reset.mag m = .cleared := by
  obtain ⟨p, k⟩ := m
  cases p <;> cases k <;> rfl
theorem reset_link (l : Link) : State.reset.link l = .cleared true := by
  cases l with
  | window w => cases w <;> rfl
  | office => rfl

end Sys2Proof.Machine
end

section
/-! SUPPORT. The fare unit, said once: the charge of a line, the form and privilege checks, pricing and its refusing
condition (R6 to R18, R21). -/

namespace Sys2Proof.Machine

/-! ### The four stages of a charge (R9 to R12, R21) -/

theorem numerator_le (fare rate : Nat) : numerator fare rate ≤ fare * 10000 :=
  Nat.mul_le_mul_left fare (Nat.sub_le 10000 rate)

/-- The division of each rounding mode rounds down to the multiple the mode names (R10). -/
theorem Rounding.gives_round (m : Rounding) (n : Nat) : m.gives n (m.round n) := by
  cases m with
  | nearest | down | up => constructor <;> simp only [round] <;> omega
  | five => exact ⟨_, rfl, by omega, by omega⟩

/-- Rounding a numerator to fives passes the fare by at most 2 (R10, R11). -/
theorem Rounding.round_le_add (m : Rounding) {n fare : Nat} (h : n ≤ fare * 10000) : m.round n ≤ fare + 2 := by
  cases m <;> simp only [round] <;> omega

/-- In NEAREST, DOWN and UP the rounded charge never exceeds the fare (R10). -/
theorem Rounding.round_le {m : Rounding} (hm : m ≠ .five) {n fare : Nat} (h : n ≤ fare * 10000) : m.round n ≤ fare := by
  cases m with
  | nearest | down | up => simp only [round]; omega
  | five => exact absurd rfl hm

section
variable (e : DiscountEntry) (fare : Nat)

theorem chargeOf_rnd : (chargeOf e fare).rnd =
    decide (min (e.mode.round (numerator fare e.rate)) fare * 10000 ≠ numerator fare e.rate) := by
  unfold chargeOf
  dsimp only
  split <;> rfl

theorem chargeOf_min : (chargeOf e fare).min =
    decide (0 < e.rate ∧ min (e.mode.round (numerator fare e.rate)) fare < min e.minimum fare) := by
  unfold chargeOf
  dsimp only
  split
  · rename_i h
    exact (decide_eq_true h).symm
  · rename_i h
    exact (decide_eq_false h).symm

theorem chargeOf_charge : (chargeOf e fare).charge =
    if (chargeOf e fare).min then min e.minimum fare else min (e.mode.round (numerator fare e.rate)) fare := by
  unfold chargeOf
  dsimp only
  split <;> rfl

end

/-- A charge never exceeds its fare (R11, R12, R21). -/
theorem chargeOf_le (e : DiscountEntry) (fare : Nat) : (chargeOf e fare).charge ≤ fare := by
  unfold chargeOf
  dsimp only
  split
  · exact Nat.min_le_right _ _
  · exact Nat.min_le_right _ _

/-! ### The form and privilege checks (R6 to R8, R191) -/

theorem stockOf_ticket_iff (b : Byte) : stockOf b = some .ticket ↔ b = 1 := by
  rw [← BitVec.toNat_inj]
  unfold stockOf
  split <;> simp_all

theorem stockOf_none_iff (b : Byte) : stockOf b = none ↔ b ≠ 1 ∧ b ≠ 2 := by
  simp only [ne_eq, ← BitVec.toNat_inj]
  unfold stockOf
  split <;> simp_all

theorem fareClassOf_none_iff (b : Byte) : fareClassOf b = none ↔ b ≠ 1 ∧ b ≠ 2 := by
  simp only [ne_eq, ← BitVec.toNat_inj]
  unfold fareClassOf
  split <;> simp_all

theorem tenderOf_none_iff (b : Byte) : tenderOf b = none ↔ b = 0 ∨ 4 < b.toNat := by
  rw [← BitVec.toNat_inj]
  unfold tenderOf
  split <;> simp_all
  omega

/-- An optional field that is absent under a condition is present where it fails. -/
theorem isSome_unless {α : Type} {p : Prop} [Decidable p] {x : α} : (if p then none else some x).isSome = true ↔ ¬p := by
  split <;> simp [*]

theorem any_unless {α : Type} {p : Prop} [Decidable p] {x : α} {q : α → Bool} :
    (if p then none else some x).any q = true ↔ ¬p ∧ q x = true := by
  split <;> simp [*]

theorem supplementOf_eq (r : IssueReq) :
    supplementOf r = if r.supplement = 0xFFFFFF then none else some r.supplement.toNat := rfl

theorem seatRef_eq (r : IssueReq) : seatRef r = if r.coach = 0 then none else some ⟨r.coach, r.seat⟩ := rfl

theorem IssueForm.badForm_iff (r : IssueReq) : IssueForm.badForm r = true ↔
    r.lines.length = 0 ∨ 4 < r.lines.length ∨ 16 < r.route.length ∨
      (r.stock = 1 ∧ (r.supplement ≠ 0xFFFFFF ∨ r.coach ≠ 0)) ∨ (r.coach = 0 ∧ r.seat ≠ 0) := by
  simp only [badForm, Bool.or_eq_true, Bool.and_eq_true, decide_eq_true_eq, stockOf_ticket_iff, supplementOf_eq, seatRef_eq,
    isSome_unless, ne_eq, or_assoc]

theorem IssueForm.badLine_iff (l : LineReq) : IssueForm.badLine l = true ↔
    (l.fareClass ≠ 1 ∧ l.fareClass ≠ 2) ∨ l.quantity = 0 ∨ 9 < l.quantity.toNat ∨ 500000 < l.fare.toNat ∨
      31 < l.code.toNat := by
  simp only [badLine, Bool.or_eq_true, decide_eq_true_eq, fareClassOf_none_iff, or_assoc]

theorem IssueForm.badValue_iff (r : IssueReq) : IssueForm.badValue r = true ↔
    (r.stock ≠ 1 ∧ r.stock ≠ 2) ∨ r.tender = 0 ∨ 4 < r.tender.toNat ∨ (∃ l ∈ r.lines, badLine l = true) ∨
      (r.supplement ≠ 0xFFFFFF ∧ 50000 < r.supplement.toNat) ∨ (∃ c ∈ r.route, c.toNat < 32 ∨ 126 < c.toNat) ∨
      (r.coach ≠ 0 ∧ (r.coach.toNat < 65 ∨ 90 < r.coach.toNat ∨ r.seat = 0 ∨ 99 < r.seat.toNat)) := by
  simp only [badValue, Bool.or_eq_true, decide_eq_true_eq, stockOf_none_iff, tenderOf_none_iff, supplementOf_eq, seatRef_eq,
    any_unless, List.any_eq_true, ne_eq, or_assoc]

/-- The content of an ISSUE that passes its form check (R6, R7). -/
theorem formCheck_passes {r : IssueReq} (form : IssueForm.badForm r = false) (value : IssueForm.badValue r = false) :
    ∃ c, formCheck r = .ok c ∧ stockOf r.stock = some c.stock ∧ tenderOf r.tender = some c.tender ∧
      c.supplement = supplementOf r ∧ c.route = r.route ∧ c.validity = r.validity ∧ c.seat = seatRef r ∧
      c.lines.map (·.2) = r.lines ∧ ∀ x ∈ c.lines, fareClassOf x.2.fareClass = some x.1 := by
  have parts := value
  simp only [IssueForm.badValue, Bool.or_eq_false_iff, decide_eq_false_iff_not] at parts
  obtain ⟨⟨⟨⟨⟨stock, tender⟩, lines⟩, _⟩, _⟩, _⟩ := parts
  obtain ⟨k, hk⟩ := Option.ne_none_iff_exists'.mp stock
  obtain ⟨t, ht⟩ := Option.ne_none_iff_exists'.mp tender
  refine ⟨_, by simp only [formCheck, form, value, hk, ht]; rfl, hk, ht, rfl, rfl, rfl, rfl, ?_, fun x hx => ?_⟩
  · simp [Function.comp_def]
  · obtain ⟨l, hl, rfl⟩ := List.mem_map.mp hx
    have good : IssueForm.badLine l = false := by simpa using List.any_eq_false.mp lines l hl
    simp only [IssueForm.badLine, Bool.or_eq_false_iff, decide_eq_false_iff_not] at good
    obtain ⟨⟨⟨⟨known, _⟩, _⟩, _⟩, _⟩ := good
    obtain ⟨f, hf⟩ := Option.ne_none_iff_exists'.mp known
    simp [hf]

theorem privileged_iff (f : Profile) (fare : FareUnit) (g : Page) (c : IssueContent) :
    privileged f fare g c = true ↔ (c.stock = .coupon → f.coupon = true) ∧
      ∀ x ∈ c.lines, (fare.entry g x.2.code.toNat).restricted = true → f.restricted = true := by
  simp only [privileged, Bool.and_eq_true, Bool.or_eq_true, decide_eq_true_eq, Bool.not_eq_true', List.any_eq_false]
  refine and_congr ?_ ?_
  · cases c.stock <;> simp
  · cases f.restricted <;> simp

/-! ### Pricing and the refusing condition (R13 to R18) -/

/-- What pricing gives (R13 to R16). -/
theorem price_spec (fare : FareUnit) (g : Page) (limit : Nat) (c : IssueContent) :
    let charge (x : FareClass × LineReq) : Charge := chargeOf (fare.entry g x.2.code.toNat) x.2.fare.toNat
    let p := price fare g limit c
    p.lines = c.lines.map (fun x => ⟨x.1, x.2.quantity.toNat, x.2.fare.toNat, x.2.code.toNat, (charge x).charge,
      x.2.quantity.toNat * (charge x).charge⟩) ∧
    p.total = (p.lines.map (·.amount)).sum + c.supplement.getD 0 ∧
    (p.conds.rnd = true ↔ ∃ x ∈ c.lines, (charge x).rnd = true) ∧
    (p.conds.min = true ↔ ∃ x ∈ c.lines, (charge x).min = true) ∧ (p.conds.big = true ↔ limit < p.total) ∧
    (p.conds.zero = true ↔ p.total = 0) ∧ (p.conds.ovf = true ↔ 9999999 < p.total) ∧ p.conds.sat = false := by
  refine ⟨List.map_map, rfl, ?_, ?_, decide_eq_true_iff, decide_eq_true_iff, decide_eq_true_iff, rfl⟩
  · simp only [price, List.any_map, List.any_eq_true]
    rfl
  · simp only [price, List.any_map, List.any_eq_true]
    rfl

/-- A search through a list looks at its head first. -/
theorem find?_cons_map {α β : Type} (p : α → Bool) (g : α → β) (a : α) (l : List α) :
    ((a :: l).find? p).map g = if p a then some (g a) else (l.find? p).map g := by
  rw [List.find?_cons]
  cases p a <;> rfl

/-- The refusing condition is the first of the table that is present and has no mask flag (R18). -/
theorem refusingCode_eq_find (f : Profile) (c : CondSet) :
    refusingCode f c =
      ([(c.ovf, false, Code.overflow), (c.big, f.maskBig, .condBig), (c.zero, f.maskZero, .condZero),
        (c.min, f.maskMin, .condMin), (c.rnd, f.maskRnd, .condRnd)].find? fun x => x.1 && !x.2.1).map (·.2.2) := by
  simp only [refusingCode, find?_cons_map, Bool.not_false, Bool.and_true]
  rfl

/-- Only the condition OVF bounds the total, and no mask passes it over (R14, R18). -/
theorem ovf_of_refusingCode_none {f : Profile} {c : CondSet} (h : refusingCode f c = none) : c.ovf = false := by
  unfold refusingCode at h
  split at h
  · cases h
  · simpa using ‹¬c.ovf = true›

end Sys2Proof.Machine
end

section
/-! SUPPORT. What every command but an accepted ISSUE keeps, said once for each operation: the jobs but for what a step may
change of them, the settings in their ranges, entry 0 of the discount pages (R2, R24, R28, R29). -/

namespace Sys2Proof.Machine

/-- A job without what a step may change of it: its state, printer, serial and retry count (R24, R29). -/
def Job.fixed (j : Job) : Job := { j with state := .queued, printer := none, serial := none, retry := 0 }

theorem Job.tag_of_fixed {i j : Job} (e : i.fixed = j.fixed) : i.tag = j.tag := by
  have h : i.fixed.tag = j.fixed.tag := by rw [e]
  exact h

/-- The jobs of `t` are, but for what a step may change of a job, jobs of `s` in their order (R28), and the settings and the
discount pages are lawful where they were. -/
structure State.Keeps (s t : State) : Prop where
  jobs : (t.jobs.map Job.fixed).Sublist (s.jobs.map Job.fixed)
  settings : s.SettingsLawful → t.SettingsLawful
  pages : s.PagesLawful → t.PagesLawful

/-- What the relation looks at. -/
def State.keptParts (s : State) :=
  (s.jobs, s.printers, s.stock, s.windows, s.tolerance, s.voidPeriod, s.faults.lead, s.clock, s.fare)

variable {s t u : State}

namespace State.Keeps

theorem refl : s.Keeps s := ⟨.refl _, id, id⟩

theorem trans (a : s.Keeps t) (b : t.Keeps u) : s.Keeps u :=
  ⟨b.jobs.trans a.jobs, b.settings ∘ a.settings, b.pages ∘ a.pages⟩

/-- A state that agrees in what the relation looks at. -/
theorem same (h : s.Keeps t) (e : u.keptParts = t.keptParts) : s.Keeps u := by
  simp only [keptParts, Prod.mk.injEq] at e
  obtain ⟨hj, hp, hk, hw, ht, hv, hf, hc, hg⟩ := e
  obtain ⟨jobs, settings, pages⟩ := h
  refine ⟨hj ▸ jobs, fun l => ?_, fun l => ?_⟩
  · simpa only [SettingsLawful, printer, window, hp, hk, hw, ht, hv, hf, hc] using settings l
  · simpa only [PagesLawful, hg] using pages l

theorem ite {c : Prop} [Decidable c] (a : s.Keeps t) (b : s.Keeps u) : s.Keeps (if c then t else u) := by
  split
  · exact a
  · exact b

theorem foldl {β : Type} {f : State → β → State} (h : s.Keeps t) (hf : ∀ (u : State) b, u.Keeps (f u b)) (l : List β) :
    s.Keeps (l.foldl f t) := by
  induction l generalizing t with
  | nil => exact h
  | cons b l ih => exact ih (h.trans (hf t b))

/-- Each job kept is a job that was there, but for what a step may change of it. -/
theorem job (h : s.Keeps t) {j' : Job} (hj : j' ∈ t.jobs) : ∃ j ∈ s.jobs, j.fixed = j'.fixed :=
  List.mem_map.mp (h.jobs.subset (List.mem_map_of_mem hj))

/-! ### The updates -/

theorem modJob (h : s.Keeps t) {g : Tag} {a : Job → JobState} {b : Job → Option Printer} {c : Job → Option Nat} {d : Job → Nat} :
    s.Keeps (t.modJob g fun j => { j with state := a j, printer := b j, serial := c j, retry := d j }) := by
  refine ⟨?_, h.settings, h.pages⟩
  rw [State.modJob_map]
  · exact h.jobs
  · exact fun _ => rfl

theorem dropJob (h : s.Keeps t) {g : Tag} : s.Keeps (t.dropJob g) :=
  ⟨(List.filter_sublist.map _).trans h.jobs, h.settings, h.pages⟩

theorem modWindow (h : s.Keeps t) {w : Window} {f : WindowRec → WindowRec}
    (hf : ∀ r, r.profile.limit ≤ 9999999 → (f r).profile.limit ≤ 9999999) : s.Keeps (t.modWindow w f) := by
  refine ⟨h.jobs, fun l => ?_, h.pages⟩
  obtain ⟨hp, hk, ht, hw, rest⟩ := h.settings l
  refine ⟨hp, hk, ht, fun w' => ?_, rest⟩
  rw [window_modWindow]
  split
  · exact hf _ (hw w)
  · exact hw w'

/-- An update of a window that leaves its single-ticket limit. -/
theorem modLists (h : s.Keeps t) {w : Window} {a : WindowRec → ShiftRec} {b : WindowRec → List RecentEntry}
    {c : WindowRec → List NoticeRef} {d : WindowRec → Option Snapshot} {e : WindowRec → BitVec 9} :
    s.Keeps (t.modWindow w fun r => ⟨a r, ⟨e r, r.profile.limit⟩, b r, c r, d r⟩) :=
  h.modWindow fun _ l => l

theorem modShift (h : s.Keeps t) {w : Window} {f : ShiftRec → ShiftRec} : s.Keeps (t.modShift w f) := h.modLists

theorem modPrinter (h : s.Keeps t) {p : Printer} {f : PrinterRec → PrinterRec}
    (hf : ∀ r, r.inRange → (f r).inRange) : s.Keeps (t.modPrinter p f) := by
  refine ⟨h.jobs, fun l => ?_, h.pages⟩
  obtain ⟨hp, rest⟩ := h.settings l
  refine ⟨fun p' => ?_, rest⟩
  rw [printer_modPrinter]
  split
  · exact hf _ (hp p)
  · exact hp p'

/-- An update of a printer that leaves its pacing settings. -/
theorem modSlots (h : s.Keeps t) {p : Printer} {a : PrinterRec → PrinterState} {b : PrinterRec → Bool}
    {c : PrinterRec → Option Tag} {d : PrinterRec → Option Current} {e : PrinterRec → Option Stock}
    {n : PrinterRec → Option Nat} {k : PrinterRec → Option StageTimer} :
    s.Keeps (t.modPrinter p fun r => { r with
      state := a r, returnMark := b r, staged := c r, current := d r, lastStock := e r, lastOutcome := n r, timer := k r }) :=
  h.modPrinter fun _ l => l

theorem modStock (h : s.Keeps t) {k : Stock} {f : StockSettings → StockSettings}
    (hf : ∀ r, r.inRange → (f r).inRange) : s.Keeps (t.modStock k f) := by
  refine ⟨h.jobs, fun l => ?_, h.pages⟩
  obtain ⟨hp, hk, rest⟩ := h.settings l
  refine ⟨hp, fun k' => ?_, rest⟩
  rw [stock_modStock]
  split
  · exact hf _ (hk k)
  · exact hk k'

theorem modLine (h : s.Keeps t) {p : Printer} {f : LineRec → LineRec} : s.Keeps (t.modLine p f) := h.same rfl

theorem modMag (h : s.Keeps t) {m : MagId} {f : Magazine → Magazine} : s.Keeps (t.modMag m f) := h.same rfl

theorem modLink (h : s.Keeps t) {l : Link} {f : LinkRec → LinkRec} : s.Keeps (t.modLink l f) := h.same rfl

/-! ### Links (R182, R185) -/

theorem beginReply (h : s.Keeps t) {l : Link} {e : ReplyEntry} : s.Keeps (t.beginReply l e) := h.modLink

theorem beginNotice (h : s.Keeps t) {w : Window} {n : NoticeRef} : s.Keeps (t.beginNotice w n) :=
  Keeps.modLink (Keeps.modLists h)

theorem pumpWindow (h : s.Keeps t) {w : Window} : s.Keeps (t.pumpWindow w) := by
  unfold State.pumpWindow
  dsimp only
  split
  · split
    · exact h.beginReply
    · exact h.beginNotice
    · split
      · exact h.beginNotice
      · exact h.beginReply
    · exact h
  · exact h

theorem pumpOffice (h : s.Keeps t) : s.Keeps t.pumpOffice := by
  unfold State.pumpOffice
  dsimp only
  split
  · split
    · exact h.beginReply
    · exact h
  · exact h

theorem pump (h : s.Keeps t) {l : Link} : s.Keeps (t.pump l) := by
  cases l with
  | window w => exact h.pumpWindow
  | office => exact h.pumpOffice

theorem pumpAll (h : s.Keeps t) {ws : List Window} : s.Keeps (ws.foldl State.pumpWindow t) :=
  h.foldl (fun _ _ => refl.pumpWindow) ws

theorem pumpWindows (h : s.Keeps t) : s.Keeps t.pumpWindows := h.pumpAll

theorem enqueue (h : s.Keeps t) {l : Link} {e : ReplyEntry} : s.Keeps (t.enqueue l e) := h.modLink.pump

theorem owe (h : s.Keeps t) {l : Link} {c : Code} : s.Keeps (t.owe l c) := h.enqueue.ite h

/-! ### Notices, shifts and jobs that leave (R32, R36, R38, R155, R156) -/

theorem notify (h : s.Keeps t) {w : Window} {old new : RefTarget} {n : Notice} : s.Keeps (t.notify w old new n) := h.modLists

theorem notifyShift (h : s.Keeps t) {w : Window} {r : Option Overall} : s.Keeps (t.notifyShift w r) := h.notify

theorem fileCashUp (h : s.Keeps t) {w : Window} {r : CashUp} : s.Keeps (t.fileCashUp w r) :=
  Keeps.notifyShift (Keeps.modShift (h.same (by rfl)))

theorem compute (h : s.Keeps t) {w : Window} : s.Keeps (t.compute w) :=
  h.fileCashUp.ite (Keeps.notifyShift (Keeps.modShift (h.same (by rfl))))

theorem closingEnd (h : s.Keeps t) {w : Window} : s.Keeps (t.closingEnd w) :=
  (h.compute.ite h.modShift.notifyShift).ite h

theorem leaveTable (h : s.Keeps t) {j : Job} : s.Keeps (t.leaveTable j) := h.dropJob.modShift.closingEnd

theorem leaveSilent (h : s.Keeps t) {j : Job} : s.Keeps (t.leaveSilent j) := h.leaveTable.modLists

theorem leaveCarried (h : s.Keeps t) {j : Job} {k : JobNoticeKind} {x : Option Nat} : s.Keeps (t.leaveCarried j k x) :=
  h.leaveTable.notify

theorem leaveIssued (h : s.Keeps t) {j : Job} {k : JobNoticeKind} : s.Keeps (t.leaveIssued j k) := by
  refine Keeps.notify (Keeps.modWindow h.leaveTable fun r hr => ?_)
  unfold WindowRec.addRecent
  split <;> exact hr

/-! ### Magazines and staged jobs (R29, R46, R60, R75) -/

theorem takePending (h : s.Keeps t) {k : Stock} : s.Keeps (t.modStock k StockSettings.takePending) := by
  refine h.modStock fun r hr => ?_
  obtain ⟨reload, pending, rest⟩ := hr
  refine ⟨?_, by simp [StockSettings.takePending], rest⟩
  cases e : r.pendingReload with
  | none => simpa [StockSettings.takePending, e] using reload
  | some v => simpa [StockSettings.takePending, e] using pending v e

theorem auditReload (h : s.Keeps t) {m : MagId} : s.Keeps (t.auditReload m) := by
  unfold State.auditReload
  exact h.takePending.modMag

theorem auditDraw (h : s.Keeps t) {m : MagId} : s.Keeps (t.auditDraw m) := (h.auditReload.ite h.modMag).ite h

theorem countSpoiled (h : s.Keeps t) {k : Stock} : s.Keeps (t.countSpoiled k) :=
  h.modStock fun _ ⟨reload, pending, threshold, _, voided⟩ => ⟨reload, pending, threshold, Nat.min_le_right _ _, voided⟩

theorem countVoided (h : s.Keeps t) {k : Stock} : s.Keeps (t.countVoided k) :=
  h.modStock fun _ ⟨reload, pending, threshold, spoiled, _⟩ => ⟨reload, pending, threshold, spoiled, Nat.min_le_right _ _⟩

theorem addEntry (h : s.Keeps t) {e : ExcEntry} : s.Keeps (t.addEntry e) := h.same rfl

theorem requeue (h : s.Keeps t) {g : Tag} : s.Keeps (t.requeue g) := h.modJob

theorem unstage (h : s.Keeps t) {p : Printer} {k : Stock} : s.Keeps (t.unstage p k) := h.modSlots.modMag

theorem returnStaged (h : s.Keeps t) {p : Printer} : s.Keeps (t.returnStaged p) := by
  unfold State.returnStaged
  split
  · exact h
  · split
    · exact h.requeue.unstage
    · exact h.modSlots

theorem returnFrom (h : s.Keeps t) {m : MagId} : s.Keeps (t.returnFrom m) := by
  unfold State.returnFrom
  split
  · exact h.returnStaged.ite h
  · exact h

theorem moveMag (h : s.Keeps t) {m : MagId} {st : MagState} : s.Keeps (t.moveMag m st) := h.modMag.returnFrom.ite h.modMag

/-! ### The dispatcher (R74, R75, R79, R80, R94) -/

theorem stage (h : s.Keeps t) {j : Job} {p : Printer} : s.Keeps (t.stage j p) := h.modJob.modSlots.modMag

theorem dispatch (h : s.Keeps t) (n : Nat) : s.Keeps (t.dispatch n).2 := by
  induction n generalizing t with
  | zero => exact h
  | succ n ih =>
    unfold State.dispatch
    split
    · exact h
    · exact ih h.stage

theorem permit (h : s.Keeps t) {j : Job} {p : Printer} : s.Keeps (t.permit j p) := by
  unfold State.permit
  exact h.modJob.modSlots.modLine

theorem judge (h : s.Keeps t) (n : Nat) (ps : List Printer) : s.Keeps (t.judge n ps) := by
  induction n generalizing t ps with
  | zero => exact h
  | succ n ih =>
    unfold State.judge
    split
    · exact h
    · exact ih (h.permit.dispatch 4) _

theorem judgePermission (h : s.Keeps t) {ps : List Printer} : s.Keeps (t.judgePermission ps) := h.judge 4 ps

theorem opportunity (h : s.Keeps t) {ps : List Printer} : s.Keeps (t.opportunity ps) := (h.dispatch 4).judge 4 _

theorem leaveActive (h : s.Keeps t) {m : MagId} {st : MagState} : s.Keeps (t.leaveActive m st) :=
  h.moveMag.opportunity.ite h.moveMag

theorem giveClear (h : s.Keeps t) {p : Printer} : s.Keeps (t.giveClear p) := h.modLine.ite h

theorem unlive (h : s.Keeps t) {p : Printer} : s.Keeps (t.unlive p) := h.same rfl

theorem dropPending (h : s.Keeps t) {p : Printer} : s.Keeps (t.dropPending p) := h.modLine.unlive.giveClear

theorem emptyCurrent (h : s.Keeps t) {p : Printer} : s.Keeps (t.emptyCurrent p) := by
  unfold State.emptyCurrent State.discardPrint
  split
  · exact h.modSlots.dropPending
  all_goals exact h.modSlots

/-! ### Trace entries and fault records (R106, R134, R135) -/

/-- A fault log of the same capture lead. -/
theorem setFaults (h : s.Keeps t) {l : FaultLog} (e : l.lead = t.faults.lead) :
    s.Keeps { t with faults := l } := h.same (by simp [keptParts, e])

theorem trace (h : s.Keeps t) {p : Printer} {k : TraceKind} {g : Option Tag} {x : Option Nat} : s.Keeps (t.trace p k g x) :=
  h.modLine.setFaults (by rfl)

theorem printerFault (h : s.Keeps t) {p : Printer} {k : RecordKind} {f : FaultFields} : s.Keeps (t.printerFault p k f) :=
  h.setFaults (FaultLog.makeRoom_lead _)

/-! ### Outcomes of prints (R110 to R117) -/

theorem failFeeding (h : s.Keeps t) {j : Job} {p : Printer} : s.Keeps (t.failFeeding j p) :=
  (h.requeue.modMag.moveMag.ite h.requeue.modMag).emptyCurrent

theorem spoilBlank (h : s.Keeps t) {j : Job} {r : ExcReason} : s.Keeps (t.spoilBlank j r) := h.addEntry.countSpoiled

theorem failPrinting (h : s.Keeps t) {j : Job} {p : Printer} {c : LossCause} : s.Keeps (t.failPrinting j p c) :=
  (h.spoilBlank.modJob.requeue.ite h.spoilBlank.leaveCarried).emptyCurrent

theorem failDelivering (h : s.Keeps t) {j : Job} {p : Printer} {c : LossCause} : s.Keeps (t.failDelivering j p c) :=
  h.addEntry.modJob.emptyCurrent.notify

theorem loseCurrent (h : s.Keeps t) {j : Job} {p : Printer} {c : LossCause} : s.Keeps (t.loseCurrent j p c) := by
  unfold State.loseCurrent
  split
  · exact h.failFeeding
  · exact h.failPrinting
  · exact h.failDelivering
  all_goals exact h

theorem afterLoss (h : s.Keeps t) {b : Bool} {n : Nat} {p : Printer} : s.Keeps (t.afterLoss b n p) :=
  h.opportunity.ite h.judgePermission

theorem failJob (h : s.Keeps t) {j : Job} {p : Printer} {c : LossCause} : s.Keeps (t.failJob j p c) := by
  unfold State.failJob
  split
  · exact h.returnStaged.opportunity
  iterate 3 exact h.loseCurrent.afterLoss
  all_goals exact h

theorem drawBlank (h : s.Keeps t) {m : MagId} : s.Keeps (t.drawBlank m) := by
  unfold State.drawBlank
  exact h.modMag

theorem startTimer (h : s.Keeps t) {p : Printer} {g : Stage} {n : Nat} : s.Keeps (t.startTimer p g n) := h.modSlots

theorem noteFed (h : s.Keeps t) {p : Printer} {k : Stock} : s.Keeps (t.noteFed p k) := h.modSlots

theorem exhaust (h : s.Keeps t) {m : MagId} : s.Keeps (t.exhaust m) := h.moveMag.ite h

theorem fedAgrees (h : s.Keeps t) {j : Job} {p : Printer} {c : Current} {x : Option Nat} : s.Keeps (t.fedAgrees j p c x) :=
  (h.drawBlank.modMag.ite h.drawBlank).auditDraw.exhaust.modJob.noteFed.startTimer.opportunity

theorem fedDisagrees (h : s.Keeps t) {j : Job} {p : Printer} {c : Current} {x : Option Nat} :
    s.Keeps (t.fedDisagrees j p c x) :=
  h.drawBlank.addEntry.countSpoiled.moveMag.printerFault.noteFed.requeue.emptyCurrent.opportunity

theorem takeFed (h : s.Keeps t) {p : Printer} {g : Tag} {x : Option Nat} : s.Keeps (t.takeFed p g x) := by
  unfold State.takeFed
  split
  · exact h.fedAgrees.ite h.fedDisagrees
  · exact h

theorem takePrinted (h : s.Keeps t) {p : Printer} {g : Tag} : s.Keeps (t.takePrinted p g) := by
  unfold State.takePrinted
  split
  · exact h.modJob.startTimer
  · exact h

theorem takeEjected (h : s.Keeps t) {p : Printer} {g : Tag} : s.Keeps (t.takeEjected p g) := by
  unfold State.takeEjected
  split
  · exact h.modShift.leaveIssued.emptyCurrent.judgePermission
  · exact h

theorem takeFault (h : s.Keeps t) {p : Printer} {k : FaultKind} {g : Option Tag} : s.Keeps (t.takeFault p k g) := by
  unfold State.takeFault
  split
  · exact h.printerFault
  · dsimp only
    split
    · exact h.printerFault.failJob
    · exact h.printerFault

theorem takeMagOpen (h : s.Keeps t) {p : Printer} {k : Stock} : s.Keeps (t.takeMagOpen p k) := by
  unfold State.takeMagOpen
  dsimp only
  split
  · exact h.printerFault.leaveActive
  iterate 2 exact h.moveMag
  all_goals exact h

theorem sightingAgrees (h : s.Keeps t) {m : MagId} : s.Keeps (t.sightingAgrees m) := h.modMag.opportunity.ite h.modMag

theorem sightingDisagrees (h : s.Keeps t) {m : MagId} {x : Option Nat} : s.Keeps (t.sightingDisagrees m x) :=
  h.printerFault.leaveActive.ite h.printerFault.moveMag

theorem takeMagClosed (h : s.Keeps t) {p : Printer} {k : Stock} {x : Option Nat} : s.Keeps (t.takeMagClosed p k x) := by
  unfold State.takeMagClosed
  dsimp only
  split
  iterate 2 exact h
  all_goals exact h.sightingAgrees.ite h.sightingDisagrees

theorem takeEmptyShown (h : s.Keeps t) {m : MagId} : s.Keeps (t.takeEmptyShown m) := h.trace.printerFault.leaveActive.ite h

theorem movePrinter (h : s.Keeps t) {p : Printer} {st : PrinterState} {b : Bool} : s.Keeps (t.movePrinter p st b) :=
  h.modSlots.returnStaged.opportunity.ite (h.modSlots.opportunity.ite h.modSlots)

theorem judgeMarks (h : s.Keeps t) {p : Printer} {a c : Bool} {l : Option FaultKind} : s.Keeps (t.judgeMarks p a l c) :=
  h.movePrinter

theorem closeShort (h : s.Keeps t) {p : Printer} : s.Keeps { t with faults := t.faults.closeShort p } := h.setFaults rfl

theorem goOffline (h : s.Keeps t) {p : Printer} : s.Keeps (t.goOffline p) := h.modSlots.returnStaged.closeShort.ite h

theorem noResponse (h : s.Keeps t) {p : Printer} : s.Keeps (t.noResponse p) := by
  unfold State.noResponse
  dsimp only
  refine Keeps.afterLoss (Keeps.printerFault ?_)
  split
  · exact h.trace.modLine.goOffline.loseCurrent
  · exact h.trace.modLine.goOffline

/-! ### Starts (R68, R128, R195 to R199) -/

theorem clearVolatile (h : s.Keeps t) : s.Keeps t.clearVolatile := by
  refine ⟨h.jobs, fun l => ?_, h.pages⟩
  obtain ⟨hp, hk, ht, hw, rest⟩ := h.settings l
  refine ⟨fun p => ?_, hk, ht, fun w => ?_, rest⟩
  · have e : t.clearVolatile.printer p = (t.printer p).kept := PerPrinter.get_map _ _ _
    exact e ▸ hp p
  · have e : t.clearVolatile.window w = (t.window w).kept := PerWindow.get_map _ _ _
    exact e ▸ hw w

theorem beginStart (h : s.Keeps t) {b : Bool} {c : StartCause} : s.Keeps (t.beginStart b c) := Keeps.same h.clearVolatile (by rfl)

theorem recoverEnded (h : s.Keeps t) {j : Job} {k : JobNoticeKind} : s.Keeps (t.recoverEnded j k) := h.dropJob.notify

theorem recoverDoubt (h : s.Keeps t) {j : Job} {x : Nat} : s.Keeps (t.recoverDoubt j x) := h.modJob.notify

theorem recoverJob (h : s.Keeps t) {j : Job} : s.Keeps (t.recoverJob j) := by
  unfold State.recoverJob
  split
  iterate 2 exact h.recoverEnded
  · split
    · exact h.modMag.addEntry.recoverDoubt
    · exact h
  · exact h.spoilBlank.recoverEnded
  · exact h.addEntry.recoverDoubt
  · exact h.recoverDoubt

theorem recount (h : s.Keeps t) {w : Window} : s.Keeps (t.recount w) := by
  unfold State.recount
  exact h.modShift

theorem modMags (h : s.Keeps t) {f : Magazine → Magazine} : s.Keeps (t.modMags f) := h.same rfl

theorem recover (h : s.Keeps t) {c : StartCause} : s.Keeps (t.recover c) := by
  have jobs : s.Keeps ((t.modMags Magazine.restart).jobs.foldl State.recoverJob (t.modMags Magazine.restart)) :=
    h.modMags.foldl (fun _ _ => refl.recoverJob) _
  exact Keeps.setFaults (Keeps.foldl jobs.modMags (fun _ _ => refl.recount) _) (FaultLog.makeRoom_lead _)

/-- After a cold start the settings are those of a new part, and the clock is lawful if it was (R1, R143, R197). -/
theorem coldStart (h : s.Keeps t) {c : StartCause} : s.Keeps (t.coldStart c) := by
  obtain ⟨hp, hk, ht, hw, hv, hl, _⟩ := delivered_settings
  cases c with
  | power => exact ⟨List.nil_sublist _, fun _ => ⟨hp, hk, ht, hw, hv, hl, Nat.zero_lt_succ _⟩, fun _ => delivered_pages⟩
  | office =>
    refine ⟨List.nil_sublist _, fun l => ?_, fun _ => delivered_pages⟩
    obtain ⟨_, _, _, _, _, _, clock⟩ := h.settings l
    exact ⟨hp, hk, ht, hw, hv, hl, clock⟩

theorem completeStart (h : s.Keeps t) {i : StartInfo} : s.Keeps (t.completeStart i) := by
  unfold State.completeStart State.answerStart
  dsimp only
  have start : s.Keeps { (if i.warm then t.recover i.cause else t.coldStart i.cause) with standby := true, power := .running } :=
    Keeps.same (h.recover.ite h.coldStart) (by rfl)
  refine Keeps.pumpWindows (Keeps.foldl ?_ (fun _ _ => refl.closingEnd) _)
  split
  · exact start.enqueue
  · exact start

/-! ### Requests (R181 to R185) -/

/-- Taking a request keeps what its `take` keeps. -/
theorem receive (h : s.Keeps t) {l : Link} {kind : Byte} {take : State → Taken} (ht : t.Keeps (take t).state) :
    s.Keeps (t.receive l kind take) := by
  unfold State.receive
  refine h.ite (h.owe.ite ?_)
  split
  · dsimp only
    split
    · exact (h.trans ht).enqueue
    · exact h.trans ht
  iterate 2 exact h.enqueue

theorem iteTaken {c : Prop} [Decidable c] {a b : Taken} (ha : s.Keeps a.state) (hb : s.Keeps b.state) :
    s.Keeps (if c then a else b).state := by
  split
  · exact ha
  · exact hb

theorem accepted (h : s.Keeps t) {k : Byte} {b : Body} : s.Keeps (t.accept k b).state := h

theorem takeCancel {w : Window} {n : JobNo} : s.Keeps (s.takeCancel w n).state := by
  have cancelled : ∀ j, s.Keeps (s.cancelJob j) := fun j => by
    unfold State.cancelJob
    split
    · exact refl.unstage.leaveSilent.opportunity
    · exact refl.leaveSilent
  unfold State.takeCancel
  split
  · split
    iterate 2 exact cancelled _
    all_goals exact refl
  · exact iteTaken refl refl

theorem takeQueryJob {w : Window} {n : JobNo} : s.Keeps (s.takeQueryJob w n).state := by
  unfold State.takeQueryJob
  split
  · exact refl
  · split <;> exact refl

theorem takeVoid {w : Window} {n : JobNo} : s.Keeps (s.takeVoid w n).state := by
  have voided : ∀ e, s.Keeps (s.voidEntry w e) := fun e => by
    unfold State.voidEntry
    exact refl.addEntry.countVoided.modShift.modLists
  unfold State.takeVoid
  refine iteTaken refl (iteTaken refl ?_)
  split
  · exact refl
  · exact iteTaken refl (iteTaken refl (iteTaken refl (voided _)))

theorem markReturn (h : s.Keeps t) {p : Printer} : s.Keeps (t.markReturn p) := h.ite h.modSlots.giveClear

theorem takeClearPrinter {w : Window} {p : Byte} : s.Keeps (s.takeClearPrinter w p).state := by
  unfold State.takeClearPrinter
  split
  · exact refl
  · exact iteTaken refl (iteTaken refl (iteTaken refl refl.markReturn))

theorem takeOpenShift {w : Window} {clerk : Half} {float : Three} : s.Keeps (s.takeOpenShift w clerk float).state := by
  unfold State.takeOpenShift
  refine iteTaken refl ?_
  split
  · exact refl.modLists.accepted
  all_goals exact refl

theorem takeCloseShift {w : Window} : s.Keeps (s.takeCloseShift w).state := by
  unfold State.takeCloseShift
  exact iteTaken refl refl.modShift.notifyShift

theorem takeDeclare {w : Window} {k : Byte} {n : Four} : s.Keeps (s.takeDeclare w k n).state := by
  unfold State.takeDeclare
  split
  · exact refl
  · exact iteTaken refl (iteTaken refl refl.modShift.accepted)

theorem takeDeclareEnd {w : Window} : s.Keeps (s.takeDeclareEnd w).state := by
  unfold State.takeDeclareEnd
  exact iteTaken refl (iteTaken refl.modShift.compute refl.modShift.notifyShift)

theorem takeOfficeStatus {k i : Byte} : s.Keeps (s.takeOfficeStatus k i).state := by
  unfold State.takeOfficeStatus
  split <;> exact refl

theorem takeSetClock {day minute : Half} : s.Keeps (s.takeSetClock day minute).state := by
  unfold State.takeSetClock
  split
  · exact refl
  · rename_i hm
    refine ⟨.refl _, fun l => ?_, id⟩
    obtain ⟨hp, hk, ht, hw, hv, hl, _⟩ := l
    exact ⟨hp, hk, ht, hw, hv, hl, by simpa [State.accept] using by omega⟩

theorem takeSelect {a b c d : Byte} : s.Keeps (s.takeSelect a b c d).state := by
  unfold State.takeSelect
  split
  · exact iteTaken refl (refl.same (by rfl))
  · exact refl

theorem takeRead : s.Keeps s.takeRead.state := by
  have read : s.Keeps s.afterRead := by
    refine refl.same ?_
    unfold State.afterRead keptParts
    dsimp only
    split <;> rfl
  unfold State.takeRead
  split
  · exact refl
  · split
    · exact read
    · exact refl

theorem takeWriteDiscount {g d : Byte} {rate : Half} {m : Byte} {n : Three} {x : Byte} :
    s.Keeps (s.takeWriteDiscount g d rate m n x).state := by
  unfold State.takeWriteDiscount
  split
  · split
    · exact refl
    · rename_i bad
      refine iteTaken refl ⟨.refl _, id, fun l h => ?_⟩
      exact (FareUnit.entry_write _ _ _ _ _ _ (by omega)).trans ((if_neg (by omega)).trans (l h))
  · exact refl

theorem takeSwitchPage : s.Keeps s.takeSwitchPage.state := ⟨.refl _, id, id⟩

theorem takeFlushWindow {w : Byte} : s.Keeps (s.takeFlushWindow w).state := by
  have flushed : ∀ (u : State) (j : Job), u.Keeps (u.flushJob j) := fun u j => by
    unfold State.flushJob
    split
    · exact refl.unstage.leaveCarried
    · exact refl.leaveCarried
  unfold State.takeFlushWindow
  split
  · exact refl
  · have all := (refl (s := s)).foldl flushed (s.flushable ‹_›)
    exact (all.opportunity.ite all).pumpWindow

theorem resolveIssued {j : Job} : s.Keeps (s.resolveIssued j) := by
  have issued : s.Keeps ({ s with exceptions := s.exceptions.eraseP (·.doubtOf j) }.modShift j.tag.window fun h => h.issue j) :=
    Keeps.modShift (refl.same (by rfl))
  exact (issued.leaveIssued.ite issued.leaveCarried).judgePermission

theorem resolveSpoiled {j : Job} : s.Keeps (s.resolveSpoiled j) :=
  Keeps.leaveCarried (Keeps.countSpoiled (refl.same (by rfl)))

theorem takeResolve {w : Byte} {n : JobNo} {r : Byte} : s.Keeps (s.takeResolve w n r).state := by
  unfold State.takeResolve
  split
  · split
    · exact refl
    · refine iteTaken refl (Keeps.pumpWindow ?_)
      split
      · exact resolveIssued
      · exact resolveSpoiled
  · exact refl

theorem takeResolveWindow {w : Byte} : s.Keeps (s.takeResolveWindow w).state := by
  unfold State.takeResolveWindow
  split
  · exact refl
  · exact (refl.foldl (fun _ _ => resolveSpoiled) _).pumpWindow

/-- The void period replaced by one in its range (R124). -/
theorem setVoidPeriod {v : Nat} (hv : v ≤ 60) : s.Keeps { s with voidPeriod := v } :=
  ⟨.refl _, fun ⟨hp, hk, ht, hw, _, hl, hc⟩ => ⟨hp, hk, ht, hw, hv, hl, hc⟩, id⟩

theorem takeSetVoidPeriod {v : Byte} : s.Keeps (s.takeSetVoidPeriod v).state :=
  setVoidPeriod (clamp_le (by decide))

theorem takeSetLead {v : Byte} : s.Keeps (s.takeSetLead v).state :=
  ⟨.refl _, fun ⟨hp, hk, ht, hw, hv, _, hc⟩ => ⟨hp, hk, ht, hw, hv, clamp_le (by decide), hc⟩, id⟩

/-! ### Requests about shifts, profiles and cash-up -/

theorem takeFlags {kind w : Byte} {f : Half} {op : BitVec 9 → BitVec 9 → BitVec 9} :
    s.Keeps (s.takeFlags kind w f op).state := by
  unfold State.takeFlags
  split
  · exact refl
  · exact refl.modLists.opportunity

theorem takeTestFlags {w : Byte} {f : Half} : s.Keeps (s.takeTestFlags w f).state := by
  unfold State.takeTestFlags
  split <;> exact refl

theorem takeSetLimit {w : Byte} {n : Three} : s.Keeps (s.takeSetLimit w n).state := by
  unfold State.takeSetLimit
  split
  · exact refl
  · exact (refl.modWindow fun _ _ => clamp_le (by decide)).accepted

theorem takeForceClose {w : Byte} : s.Keeps (s.takeForceClose w).state := by
  unfold State.takeForceClose
  split
  · exact refl
  · split
    iterate 2 exact refl
    all_goals exact iteTaken refl (refl.modShift.modShift.notifyShift.ite refl.modShift.compute).pumpWindow

theorem latchWindow {k : LatchPart} {w : Window} : s.Keeps (s.latchWindow k w) := by
  unfold State.latchWindow
  exact refl.modLists

theorem takeLatch {ws k : Byte} : s.Keeps (s.takeLatch ws k).state := by
  unfold State.takeLatch
  split
  · exact iteTaken refl (refl.foldl (fun _ _ => latchWindow) _)
  · exact refl

theorem takeReadLatched {w : Byte} : s.Keeps (s.takeReadLatched w).state := by
  unfold State.takeReadLatched
  split
  · exact refl
  · split
    · exact refl
    · exact refl.modLists.accepted

theorem takeSetTolerance {k : Byte} {low high : Four} {q : Byte} : s.Keeps (s.takeSetTolerance k low high q).state := by
  unfold State.takeSetTolerance
  split
  · refine iteTaken refl ⟨.refl _, fun ⟨hp, hk, ht, rest⟩ => ⟨hp, hk, fun t' => ?_, rest⟩, id⟩
    rw [State.accept, PerTender.get_set]
    split
    · exact Tolerance.carry_inRange (ht _) _ _ _
    · exact ht t'
  · exact refl

theorem collectRecord {r : CashUp} : s.Keeps (s.collectRecord r).state := refl.same rfl

theorem takeCollect {mode : Byte} {key : Option (Byte × ShiftNo)} : s.Keeps (s.takeCollect mode key).state := by
  unfold State.takeCollect
  split
  iterate 3 exact refl
  · split
    · exact collectRecord
    · exact refl
  · split
    · exact refl
    · split
      · exact collectRecord
      · exact refl

theorem admitWaiting (h : s.Keeps t) (n : Nat) : s.Keeps (State.admitWaiting n t).2 := by
  induction n generalizing t with
  | zero => exact h
  | succ n ih =>
    unfold State.admitWaiting
    split
    · exact h
    · split
      · exact h
      · split
        · exact ih (Keeps.fileCashUp (h.same (by rfl)))
        · exact h

theorem takeRelease {w : Byte} {n : ShiftNo} : s.Keeps (s.takeRelease w n).state := by
  unfold State.takeRelease
  split
  · exact refl
  · split
    · exact refl
    · exact iteTaken refl (Keeps.pumpAll (Keeps.admitWaiting (refl.same (by rfl)) _))

/-! ### Requests about stock, printers and the fault log -/

theorem takeLoadPack {m : Byte} {first : Three} {n : Half} : s.Keeps (s.takeLoadPack m first n).state := by
  have loaded : ∀ m k, s.Keeps (s.loadPack m k) := fun m k => by
    unfold State.loadPack
    exact refl.takePending.modMag
  unfold State.takeLoadPack
  split
  · exact refl
  · exact iteTaken refl (iteTaken refl (iteTaken refl (loaded _ _)))

theorem takeUnload {m : Byte} : s.Keeps (s.takeUnload m).state := by
  unfold State.takeUnload
  split
  · exact refl
  · dsimp only
    split
    iterate 2 exact refl
    · exact iteTaken refl (Keeps.judgePermission (Keeps.modMag (refl.same (by rfl))))

theorem takeHold {m : Byte} : s.Keeps (s.takeHold m).state := by
  unfold State.takeHold
  split
  · exact refl
  · split
    · exact refl.leaveActive
    · exact refl.moveMag
    all_goals exact refl

theorem takeReinstate {m : Byte} : s.Keeps (s.takeReinstate m).state := by
  unfold State.takeReinstate
  split
  · exact refl
  · exact iteTaken (refl.modMag.opportunity.ite refl.modMag) refl

theorem modType (h : s.Keeps t) {k : Stock} {f : Magazine → Magazine} : s.Keeps (t.modType k f) :=
  h.foldl (fun _ _ => refl.modMag) _

theorem setReload (h : s.Keeps t) {k : Stock} {v : Nat} (hv : v ≤ 2047) : s.Keeps (t.setReload k v) := by
  have latched : ∀ r : StockSettings, r.inRange → ({ r with pendingReload := some v } : StockSettings).inRange :=
    fun r ⟨reload, _, rest⟩ => ⟨reload, by simpa using hv, rest⟩
  have taken : ∀ r : StockSettings, r.inRange → ({ r with reload := v, pendingReload := none } : StockSettings).inRange :=
    fun r ⟨_, _, rest⟩ => ⟨hv, by simp, rest⟩
  exact (h.modStock latched).ite (h.modStock taken).modType

theorem setThreshold (h : s.Keeps t) {k : Stock} {v : Nat} (hv : v ≤ 500) : s.Keeps (t.setThreshold k v) := by
  have taken : ∀ r : StockSettings, r.inRange → ({ r with threshold := v } : StockSettings).inRange :=
    fun r ⟨reload, pending, _, rest⟩ => ⟨reload, pending, hv, rest⟩
  exact (h.modStock taken).modType

theorem takeSetStock {k : Byte} {reload threshold : Half} : s.Keeps (s.takeSetStock k reload threshold).state := by
  unfold State.takeSetStock
  split
  · exact refl
  · rename_i k _
    refine iteTaken refl ?_
    have first : s.Keeps ((present reload).elim s fun v => s.setReload k (clamp 0 Config.maxReload v)) := by
      cases present reload with
      | none => exact refl
      | some v => exact refl.setReload (clamp_le (by decide))
    dsimp only [State.accept]
    cases present threshold with
    | none => exact first
    | some v => exact first.setThreshold (clamp_le (by decide))

theorem takeSetPrinter {p b m c : Byte} : s.Keeps (s.takeSetPrinter p b m c).state := by
  unfold State.takeSetPrinter
  split
  · exact refl
  · exact iteTaken refl (refl.modPrinter fun _ h => PrinterRec.setPacing_inRange h _ _ _).judgePermission

theorem takeSetRoute {w a b : Byte} : s.Keeps (s.takeSetRoute w a b).state := by
  unfold State.takeSetRoute
  split
  · exact Keeps.opportunity (refl.same (by rfl))
  · exact refl

theorem takeWithdraw {p : Byte} : s.Keeps (s.takeWithdraw p).state := by
  have withdrawn : ∀ p, s.Keeps (s.withdrawPrinter p) := fun p =>
    refl.modSlots.returnStaged.closeShort.opportunity.ite refl.modSlots.returnStaged.closeShort
  unfold State.takeWithdraw
  split
  · exact refl
  · exact iteTaken refl (withdrawn _)

theorem takeReturn {p : Byte} : s.Keeps (s.takeReturn p).state := by
  unfold State.takeReturn
  split
  · exact refl
  · exact iteTaken refl.markReturn refl

theorem takeFlushPrinter {p : Byte} : s.Keeps (s.takeFlushPrinter p).state := by
  unfold State.takeFlushPrinter
  split
  · exact refl
  · split
    · exact refl.returnStaged.opportunity
    · exact refl

theorem takeAcknowledge {mode : Byte} {n : RecordNo} : s.Keeps (s.takeAcknowledge mode n).state := by
  unfold State.takeAcknowledge
  split
  · exact refl
  · split
    · exact refl
    · split
      iterate 2 exact refl.setFaults (by rfl)

/-! ### The printer line (R93 to R105) -/

theorem beginTurn (h : s.Keeps t) {c : TurnCmd} {b : Bool} : s.Keeps (t.beginTurn c b) := h.same rfl

theorem sendPrint (h : s.Keeps t) {c : PrintCmd} : s.Keeps (t.sendPrint c) :=
  h.beginTurn.trace.startTimer.ite h.beginTurn.trace

theorem endTurn (h : s.Keeps t) : s.Keeps t.endTurn := Keeps.pumpWindows (h.same (by rfl))

theorem takeEvent (h : s.Keeps t) {p : Printer} {e : Event} : s.Keeps (t.takeEvent p e) := by
  cases e with
  | fed g x => exact h.trace.takeFed
  | printed g => exact h.trace.takePrinted
  | ejected g => exact h.trace.takeEjected
  | fault k g => exact h.trace.takeFault
  | magOpen k => exact h.trace.takeMagOpen
  | magClosed k x => exact h.trace.takeMagClosed

theorem takeEvents (h : s.Keeps t) {p : Printer} (es : List (EventNo × Event)) : s.Keeps (t.takeEvents p es) := by
  induction es generalizing t with
  | nil => exact h
  | cons e es ih =>
    unfold State.takeEvents
    split
    · exact ih h.modLine.takeEvent
    · exact ih h

theorem takeReplyEvents (h : s.Keeps t) {p : Printer} {r : Status} : s.Keeps (t.takeReplyEvents p r) := by
  unfold State.takeReplyEvents
  split
  · exact h.takeEvents _
  · split
    · exact h.modLine
    · exact h.modLine.takeEvent.takeEvents _

theorem judgeEmpty (h : s.Keeps t) {m : MagId} {b : Bool} : s.Keeps (t.judgeEmpty m b) := h.takeEmptyShown.ite h

theorem answered (h : s.Keeps t) {p : Printer} : s.Keeps (t.answered p) := h.dropPending.judgePermission.ite h

theorem takeReply (h : s.Keeps t) {v : Turn} {raw : StatusReply} {r : Status} : s.Keeps (t.takeReply v raw r) :=
  h.modLine.takeReplyEvents.judgeEmpty.judgeEmpty.judgeMarks.answered.endTurn

theorem takeMiss (h : s.Keeps t) {v : Turn} {c : MissCause} : s.Keeps (t.takeMiss v c) :=
  (h.modLine.trace.noResponse.ite h.modLine.trace).endTurn

/-! ### Counters, timers, the clock and the supplies -/

theorem reachTime (h : s.Keeps t) {n : Nat} : s.Keeps (t.reachTime n) := h.same rfl

theorem expireStage (h : s.Keeps t) {p : Printer} {g : Stage} {j : Job} : s.Keeps (t.expireStage p g j) :=
  h.trace.printerFault.failJob.pumpWindows

/-! ### Commands -/

/-- Every command but an ISSUE keeps the jobs' fixed fields, the settings and the pages. -/
theorem exec_keeps {c : Instr} (hc : ∀ w r, c ≠ .issue w r) (s : State) : ∃ t, exec c s = .next t ∧ s.Keeps t := by
  cases c with
  | issue w r => exact absurd rfl (hc w r)
  | cancel w n => exact ⟨_, rfl, refl.receive takeCancel⟩
  | queryJob w n => exact ⟨_, rfl, refl.receive takeQueryJob⟩
  | void w n => exact ⟨_, rfl, refl.receive takeVoid⟩
  | clearPrinter w p => exact ⟨_, rfl, refl.receive takeClearPrinter⟩
  | openShift w c f => exact ⟨_, rfl, refl.receive takeOpenShift⟩
  | closeShift w => exact ⟨_, rfl, refl.receive takeCloseShift⟩
  | declare w k n => exact ⟨_, rfl, refl.receive takeDeclare⟩
  | declareEnd w => exact ⟨_, rfl, refl.receive takeDeclareEnd⟩
  | windowStatus w => exact ⟨_, rfl, refl.receive refl⟩
  | officeStatus k i => exact ⟨_, rfl, refl.receive takeOfficeStatus⟩
  | setClock d m => exact ⟨_, rfl, refl.receive takeSetClock⟩
  | restart => exact ⟨_, rfl, refl.receive refl.beginStart⟩
  | coldStart => exact ⟨_, rfl, refl.receive (iteTaken refl.beginStart refl)⟩
  | select l p i m => exact ⟨_, rfl, refl.receive takeSelect⟩
  | read => exact ⟨_, rfl, refl.receive takeRead⟩
  | writeDiscount g d rate m n x => exact ⟨_, rfl, refl.receive takeWriteDiscount⟩
  | switchPage => exact ⟨_, rfl, refl.receive takeSwitchPage⟩
  | flushWindow w => exact ⟨_, rfl, refl.receive takeFlushWindow⟩
  | resolve w n r => exact ⟨_, rfl, refl.receive takeResolve⟩
  | resolveWindow w => exact ⟨_, rfl, refl.receive takeResolveWindow⟩
  | setVoidPeriod v => exact ⟨_, rfl, refl.receive takeSetVoidPeriod⟩
  | loadPack m a n => exact ⟨_, rfl, refl.receive takeLoadPack⟩
  | unload m => exact ⟨_, rfl, refl.receive takeUnload⟩
  | hold m => exact ⟨_, rfl, refl.receive takeHold⟩
  | reinstate m => exact ⟨_, rfl, refl.receive takeReinstate⟩
  | setStock k a b => exact ⟨_, rfl, refl.receive takeSetStock⟩
  | setPrinter p b m c => exact ⟨_, rfl, refl.receive takeSetPrinter⟩
  | setRoute w a b => exact ⟨_, rfl, refl.receive takeSetRoute⟩
  | withdraw p => exact ⟨_, rfl, refl.receive takeWithdraw⟩
  | returnPrinter p => exact ⟨_, rfl, refl.receive takeReturn⟩
  | flushPrinter p => exact ⟨_, rfl, refl.receive takeFlushPrinter⟩
  | setLead v => exact ⟨_, rfl, refl.receive takeSetLead⟩
  | acknowledge m n => exact ⟨_, rfl, refl.receive takeAcknowledge⟩
  | clearFlags w f => exact ⟨_, rfl, refl.receive takeFlags⟩
  | setFlags w f => exact ⟨_, rfl, refl.receive takeFlags⟩
  | toggleFlags w f => exact ⟨_, rfl, refl.receive takeFlags⟩
  | testFlags w f => exact ⟨_, rfl, refl.receive takeTestFlags⟩
  | setLimit w n => exact ⟨_, rfl, refl.receive takeSetLimit⟩
  | forceClose w => exact ⟨_, rfl, refl.receive takeForceClose⟩
  | latch ws k => exact ⟨_, rfl, refl.receive takeLatch⟩
  | readLatched w => exact ⟨_, rfl, refl.receive takeReadLatched⟩
  | setTolerance k a b q => exact ⟨_, rfl, refl.receive takeSetTolerance⟩
  | collect m k => exact ⟨_, rfl, refl.receive takeCollect⟩
  | release w n => exact ⟨_, rfl, refl.receive takeRelease⟩
  | unknownKind l k => exact ⟨_, rfl, refl.receive refl⟩
  | line l c =>
    refine ⟨_, rfl, Keeps.ite ?_ refl⟩
    split
    iterate 2 exact refl.owe
    · exact refl.modLink.owe
  | overrun l => exact ⟨_, rfl, refl.owe.ite refl⟩
  | gapDiscard l => exact ⟨_, rfl, refl.modLink⟩
  | requestDuringStart l k => exact ⟨_, rfl, (refl.receive refl).ite refl⟩
  | transmitComplete l => exact ⟨_, rfl, refl.modLink.pump.ite refl⟩
  | linkReadyAsserted l => exact ⟨_, rfl, refl.modLink.pump⟩
  | poll => exact ⟨_, rfl, refl.beginTurn.ite refl⟩
  | print =>
    refine ⟨_, rfl, Keeps.ite ?_ refl⟩
    split
    · exact refl.sendPrint
    all_goals exact refl
  | clear => exact ⟨_, rfl, refl.beginTurn.trace.ite refl⟩
  | goodReply r =>
    refine ⟨_, rfl, ?_⟩
    split
    · exact refl
    · split
      · exact refl.takeReply
      · exact refl.takeMiss
  | miss c =>
    refine ⟨_, rfl, ?_⟩
    split
    · exact refl.takeMiss
    · exact refl
  | auditCounterZero m => exact ⟨_, rfl, refl.auditReload.ite refl⟩
  | stageExpiry p =>
    refine ⟨_, rfl, Keeps.ite ?_ refl⟩
    split
    · exact refl.reachTime.expireStage
    · exact refl
  | pacingWaitExpiry p =>
    refine ⟨_, rfl, Keeps.ite ?_ refl⟩
    split
    · refine Keeps.judgePermission ?_
      cases (s.printer p).waitEnd _ with
      | none => exact refl
      | some n => exact refl.reachTime
    · exact refl
  | clockAdvance =>
    exact ⟨_, rfl, .refl _, fun ⟨hp, hk, ht, hw, hv, hl, _⟩ => ⟨hp, hk, ht, hw, hv, hl, Stamp.tick_minute _⟩, id⟩
  | powerOn x => exact ⟨_, rfl, Keeps.ite (Keeps.beginStart (refl.same (by rfl))) refl⟩
  | mainSupplyLoss => exact ⟨_, rfl, Keeps.ite refl (Keeps.same refl.clearVolatile (by rfl))⟩
  | retentionSupplyLow => exact ⟨_, rfl, refl.same rfl⟩
  | startComplete =>
    refine ⟨_, rfl, ?_⟩
    split
    · exact refl.completeStart
    all_goals exact refl
  | readyInputFalls l => exact ⟨_, rfl, refl.modLink⟩

end State.Keeps

end Sys2Proof.Machine
end

section
/-! SUPPORT. An ISSUE, said once: the number a job is given, the checks in their order, pricing, and the accepted job, of
which the dispatcher then changes the state and the printer alone (R17, R18, R20, R25, R26). -/

namespace Sys2Proof.Machine

/-- A job as it was accepted, but for its serial and retry count: QUEUED, on no printer. -/
def Job.accepted (j : Job) : Job := { j with state := .queued, printer := none }

/-! ### Job numbers (R25) -/

namespace State
variable {s : State}

/-- The numbers a window's active jobs and recent issues carry. -/
def carriedNumbers (s : State) (w : Window) : List JobNo :=
  (s.jobs.filter (·.tag.window = w)).map (·.tag.job) ++ (s.window w).recent.map (·.tag.job)

theorem carriedNumbers_length (s : State) (w : Window) :
    (s.carriedNumbers w).length = s.activeJobs w + (s.window w).recent.length := by
  simp [carriedNumbers, activeJobs, List.countP_eq_length_filter]

theorem mem_carriedNumbers {w : Window} {n : JobNo} (h : s.numberCarried w n = true) : n ∈ s.carriedNumbers w := by
  simp only [numberCarried, Bool.or_eq_true, List.any_eq_true, decide_eq_true_eq] at h
  simp only [carriedNumbers, List.mem_append, List.mem_map, List.mem_filter, decide_eq_true_eq]
  rcases h with ⟨j, hj, e⟩ | ⟨x, hx, e⟩
  · exact .inl ⟨j, ⟨hj, by rw [e]⟩, by rw [e]⟩
  · exact .inr ⟨x, hx, by rw [e]⟩

/-- The number given is carried by none of the window's jobs and recent issues, unless every number tried was (R25). -/
theorem freeNumber_spec (w : Window) (k : Nat) (n : JobNo) :
    s.numberCarried w (s.freeNumber w k n) = false ∨ ∀ i < k, s.numberCarried w (n + BitVec.ofNat 8 i) = true := by
  induction k generalizing n with
  | zero => exact .inr fun i hi => absurd hi (Nat.not_lt_zero i)
  | succ k ih =>
    unfold freeNumber
    split
    · rename_i carried
      refine (ih (n + 1)).imp_right fun rest i hi => ?_
      cases i with
      | zero => simpa using carried
      | succ i =>
        have e : n + BitVec.ofNat 8 (i + 1) = n + 1 + BitVec.ofNat 8 i := by
          rw [BitVec.ofNat_add]
          ac_rfl
        exact e ▸ rest i (by omega)
    · rename_i free
      exact .inl (by simpa using free)

/-- Of twelve numbers in a row a window below its load carries at most eleven (R25, R27, R36). -/
theorem freeNumber_free {w : Window} (ht : s.TableLawful) (hl : s.load w < 8) (n : JobNo) :
    s.numberCarried w (s.freeNumber w 12 n) = false := by
  refine (freeNumber_spec w 12 n).resolve_right fun all => ?_
  let row : List JobNo := (List.range 12).map fun i => n + BitVec.ofNat 8 i
  have nodup : row.Nodup := by
    refine List.pairwise_map.mpr (List.nodup_range.imp_of_mem fun {i k} hi hk ne e => ne ?_)
    have h := congrArg BitVec.toNat ((BitVec.add_right_inj n).mp e)
    simp only [List.mem_range, BitVec.toNat_ofNat] at hi hk h
    omega
  have sub : row ⊆ s.carriedNumbers w := fun x hx => by
    obtain ⟨i, hi, rfl⟩ := List.mem_map.mp hx
    exact mem_carriedNumbers (all i (List.mem_range.mp hi))
  have length := nodup.length_le_of_subset sub
  obtain ⟨_, _, _, _, lists, _⟩ := ht
  obtain ⟨recent, _⟩ := lists w
  rw [carriedNumbers_length] at length
  simp only [row, List.length_map, List.length_range] at length
  simp only [load] at hl
  omega

theorem numberCarried_modShift (w w' : Window) (f : ShiftRec → ShiftRec) (n : JobNo) :
    (s.modShift w f).numberCarried w' n = s.numberCarried w' n := by
  have e : ((s.modShift w f).window w').recent = (s.window w').recent := by
    rw [window_modShift]
    split
    · rename_i h; rw [h]
    · rfl
  simp only [numberCarried, e, modShift_jobs]

theorem freeNumber_modShift (w w' : Window) (f : ShiftRec → ShiftRec) (k : Nat) (n : JobNo) :
    (s.modShift w f).freeNumber w' k n = s.freeNumber w' k n := by
  induction k generalizing n with
  | zero => rfl
  | succ k ih => simp only [freeNumber, numberCarried_modShift, ih]

/-! ### What the dispatcher leaves of a job (R74, R75, R79) -/

theorem stage_accepted (j : Job) (p : Printer) : (s.stage j p).jobs.map Job.accepted = s.jobs.map Job.accepted := by
  unfold stage
  exact modJob_map s j.tag fun _ => rfl

theorem permit_accepted (j : Job) (p : Printer) : (s.permit j p).jobs.map Job.accepted = s.jobs.map Job.accepted := by
  unfold permit
  exact modJob_map s j.tag fun _ => rfl

theorem dispatch_accepted (n : Nat) (s : State) : (s.dispatch n).2.jobs.map Job.accepted = s.jobs.map Job.accepted := by
  induction n generalizing s with
  | zero => rfl
  | succ n ih =>
    unfold dispatch
    split
    · rfl
    · exact (ih _).trans (stage_accepted _ _)

theorem judge_accepted (n : Nat) (ps : List Printer) (s : State) :
    (s.judge n ps).jobs.map Job.accepted = s.jobs.map Job.accepted := by
  induction n generalizing s ps with
  | zero => rfl
  | succ n ih =>
    unfold judge
    split
    · rfl
    · exact (ih _ _).trans ((dispatch_accepted 4 _).trans (permit_accepted _ _))

/-- A dispatch opportunity changes the state and the printer of jobs alone. -/
theorem opportunity_accepted (s : State) (ps : List Printer) :
    (s.opportunity ps).jobs.map Job.accepted = s.jobs.map Job.accepted :=
  (judge_accepted 4 _ _).trans (dispatch_accepted 4 s)

/-! ### An accepted job (R26) -/

/-- The state with a job at the end of the acceptance order (R26, R28). -/
def withJob (s : State) (j : Job) : State := { s with jobs := s.jobs ++ [j] }

theorem acceptJob_accepted (s : State) (j : Job) :
    (s.acceptJob j).jobs.map Job.accepted = s.jobs.map Job.accepted ++ [j.accepted] :=
  (opportunity_accepted _ _).trans (List.map_append ..)

theorem acceptJob_tags (s : State) (j : Job) : (s.acceptJob j).jobs.map (·.tag) = s.jobs.map (·.tag) ++ [j.tag] := by
  have h := congrArg (List.map (·.tag)) (acceptJob_accepted s j)
  rw [List.map_append, List.map_map, List.map_map] at h
  exact h

theorem acceptJob_frame {ps : List Part} {j : Job} (hd : Dispatches ps) (hw : .shift j.tag.window ∈ ps) :
    SameOutside ps s (s.acceptJob j) :=
  ((setJobs_frame hd.jobs).trans (modShift_frame hw)).trans (opportunity_frame hd)

theorem acceptJob_shift (s : State) (j : Job) : (s.acceptJob j).shift j.tag.window =
    { s.shift j.tag.window with nextJob := j.tag.job + 1, active := (s.shift j.tag.window).active + 1 } := by
  have frame : SameOutside dispatchParts _ (s.acceptJob j) := opportunity_frame fun _ hq => hq
  have shift : (s.acceptJob j).shift j.tag.window = _ :=
    frame.at (q := .shift j.tag.window) (by cases j.tag.window <;> decide)
  exact shift.trans (shift_modShift (s.withJob j) _ _)

/-! ### An ISSUE taken (R17, R18, R20, R26) -/

/-- The figures of an ISSUE priced for a window at this moment. -/
def priceNow (s : State) (w : Window) (c : IssueContent) : Priced :=
  price s.fare s.fare.active (s.window w).profile.limit c

/-- The job an ISSUE that passes its checks makes. -/
def issuedJob (s : State) (w : Window) (c : IssueContent) : Job :=
  newJob ⟨w, s.freeNumber w 12 (s.shift w).nextJob⟩ (s.shift w).number s.fare.active c (s.priceNow w c)

/-- The state with the conditions of a priced ISSUE in the shift's sticky set (R17). -/
def stuck (s : State) (w : Window) (c : IssueContent) : State :=
  s.modShift w fun h => { h with sticky := h.sticky.union (s.priceNow w c).conds }

theorem stuck_keeps (s : State) (w : Window) (c : IssueContent) : s.Keeps (s.stuck w c) := by
  unfold stuck
  exact Keeps.refl.modShift

/-- Pricing refuses by its condition set, or accepts the job (R18, R26). -/
theorem takePriced_eq (s : State) (w : Window) (c : IssueContent) :
    s.takePriced w c =
      match refusingCode (s.window w).profile (s.priceNow w c).conds with
      | some code => ⟨s.stuck w c, some (.priced code (s.priceNow w c).conds (s.priceNow w c).total)⟩
      | none => ((s.stuck w c).acceptJob (s.issuedJob w c)).accept 1
          (.issued (s.issuedJob w c).tag (s.priceNow w c).total (s.priceNow w c).conds (s.priceNow w c).conds.big) := by
  unfold takePriced
  dsimp only
  simp only [freeNumber_modShift, shift_modShift, modShift_fare]
  rfl

/-- A job that may join the table: with a number carried by no other of its window, and within R21. -/
def Admits (s : State) (j : Job) : Prop :=
  (s.TableLawful → j.tag ∉ s.jobs.map (·.tag)) ∧ j.total ≤ 9999999 ∧ ∀ l ∈ j.lines, l.charge ≤ l.fare

theorem issuedJob_admitted {w : Window} {c : IssueContent} (hl : s.load w < 8)
    (hc : refusingCode (s.window w).profile (s.priceNow w c).conds = none) : s.Admits (s.issuedJob w c) := by
  refine ⟨fun ht hm => ?_, ?_, fun l hl => ?_⟩
  · obtain ⟨j, hj, e⟩ := List.mem_map.mp hm
    have free := freeNumber_free ht hl (s.shift w).nextJob
    rw [numberCarried, Bool.or_eq_false_iff] at free
    exact List.any_eq_false.mp free.1 j hj (decide_eq_true e)
  · have ovf := ovf_of_refusingCode_none hc
    exact Nat.le_of_not_lt (of_decide_eq_false ovf)
  · obtain ⟨x, hx, rfl⟩ := List.mem_map.mp hl
    obtain ⟨y, _, rfl⟩ := List.mem_map.mp hx
    exact chargeOf_le _ _

/-- An accepted job joins the table, and all else is kept (R26). -/
theorem acceptJob_keeps (s : State) (w : Window) (c : IssueContent) (j : Job) :
    (s.withJob j).Keeps ((s.stuck w c).acceptJob j) := by
  have sticky : (s.withJob j).Keeps ((s.withJob j).modShift w fun h =>
    { h with sticky := h.sticky.union (s.priceNow w c).conds }) := Keeps.refl.modShift
  have joined : (s.withJob j).Keeps ((s.stuck w c).withJob j) := sticky
  exact joined.modShift.opportunity

/-! ### The checks in their order (R26) -/

section
variable {w : Window} {r : IssueReq} {c : IssueContent}

theorem takeIssue_of_error {code : Code} (h : formCheck r = .error code) : s.takeIssue w r = s.refuse 1 code := by
  simp only [takeIssue, h]

theorem takeIssue_of_ok (h : formCheck r = .ok c) :
    s.takeIssue w r =
      if (s.shift w).state ≠ .opened then s.refuse 1 .shiftState
      else if !privileged (s.window w).profile s.fare s.fare.active c then s.refuse 1 .notPermitted
      else if 32 ≤ s.jobs.length then s.refuse 1 .queueFull
      else if 8 ≤ s.load w then s.refuse 1 .windowFull
      else s.takePriced w c := by
  unfold takeIssue
  rw [h]
  rfl

theorem takePriced_of_refused {code : Code} (h : refusingCode (s.window w).profile (s.priceNow w c).conds = some code) :
    s.takePriced w c = ⟨s.stuck w c, some (.priced code (s.priceNow w c).conds (s.priceNow w c).total)⟩ := by
  rw [takePriced_eq, h]

theorem takePriced_of_passed (h : refusingCode (s.window w).profile (s.priceNow w c).conds = none) :
    s.takePriced w c = ((s.stuck w c).acceptJob (s.issuedJob w c)).accept 1
      (.issued (s.issuedJob w c).tag (s.priceNow w c).total (s.priceNow w c).conds (s.priceNow w c).conds.big) := by
  rw [takePriced_eq, h]

theorem stuck_frame {ps : List Part} (h : .shift w ∈ ps) : SameOutside ps s (s.stuck w c) := modShift_frame h

theorem stuck_shift (s : State) (w : Window) (c : IssueContent) :
    (s.stuck w c).shift w = { s.shift w with sticky := (s.shift w).sticky.union (s.priceNow w c).conds } :=
  shift_modShift _ _ _

end

end State

end Sys2Proof.Machine
end

section
/-! SUPPORT. What every step does to the jobs, the settings and the pages: it keeps them, or a job has been accepted first. -/

namespace Sys2Proof.Machine

namespace State
variable {s : State}

/-- What a step does to the jobs, the settings and the pages: it keeps them, or a new job has joined the table first. -/
def Steps (s t : State) : Prop := s.Keeps t ∨ ∃ j, s.Admits j ∧ (s.withJob j).Keeps t

theorem takeIssue_steps (s : State) (w : Window) (r : IssueReq) : s.Steps (s.takeIssue w r).state := by
  unfold takeIssue
  split
  · exact .inl .refl
  · rename_i c _
    iterate 4
      split
      · exact .inl .refl
    rename_i hl
    rw [takePriced_eq]
    split
    · exact .inl (stuck_keeps s w c)
    · rename_i hc
      exact .inr ⟨_, issuedJob_admitted (Nat.lt_of_not_le hl) hc, (acceptJob_keeps s w c _).accepted⟩

theorem Steps.receive {l : Link} {kind : Byte} {take : State → Taken} (ht : s.Steps (take s).state) :
    s.Steps (s.receive l kind take) := by
  rcases ht with keeps | ⟨j, admits, keeps⟩
  · exact .inl (Keeps.refl.receive keeps)
  · unfold State.receive
    split
    · exact .inl .refl
    · split
      · exact .inl Keeps.refl.owe
      · split
        · dsimp only
          split
          · exact .inr ⟨j, admits, keeps.enqueue⟩
          · exact .inr ⟨j, admits, keeps⟩
        iterate 2 exact .inl Keeps.refl.enqueue

theorem exec_steps (c : Instr) (s : State) : ∃ t, exec c s = .next t ∧ s.Steps t := by
  by_cases hc : ∀ w r, c ≠ .issue w r
  · obtain ⟨t, e, keeps⟩ := Keeps.exec_keeps hc s
    exact ⟨t, e, .inl keeps⟩
  · simp only [Classical.not_forall, Classical.not_not] at hc
    obtain ⟨w, r, rfl⟩ := hc
    exact ⟨_, rfl, Steps.receive (takeIssue_steps s w r)⟩

/-- What precedes a command in its step changes nothing the jobs' law and the kept parts look at. -/
theorem Steps.after {t u : State} (h : u.Steps t) (k : s.Keeps u) (hj : u.jobs = s.jobs)
    (ht : s.TableLawful → u.TableLawful) : s.Steps t := by
  rcases h with keeps | ⟨j, ⟨fresh, bounds⟩, keeps⟩
  · exact .inl (k.trans keeps)
  · have joined : (s.withJob j).Keeps (u.withJob j) := by
      refine ⟨?_, k.settings, k.pages⟩
      simp only [withJob, hj]
      exact .refl _
    exact .inr ⟨j, ⟨fun l => hj ▸ fresh (ht l), bounds⟩, joined.trans keeps⟩

theorem runReceived_steps (x : State × Option Instr) : ∃ t, runReceived x = .next t ∧ x.1.Steps t := by
  unfold runReceived
  split
  · exact exec_steps _ _
  · exact ⟨_, rfl, .inl .refl⟩

/-- What every step does to the jobs, the settings and the pages. -/
theorem step_steps {t : State} (h : step s = .next t) : s.Steps t := by
  match hp : s.pending, ha : s.arrivals with
  | c :: rest, _ =>
    obtain ⟨_, e, steps⟩ := exec_steps c { s with pending := rest }
    cases e.symm.trans ((step_of_pending hp).symm.trans h)
    exact steps.after (Keeps.refl.same rfl) rfl id
  | [], a :: rest =>
    obtain ⟨_, e, steps⟩ := runReceived_steps ({ s with arrivals := rest }.arrive a)
    cases e.symm.trans ((step_of_arrivals hp ha).symm.trans h)
    obtain ⟨ls, bs, e⟩ := arrive_receivers { s with arrivals := rest } a
    rw [e] at steps
    exact steps.after (Keeps.refl.same rfl) rfl id
  | [], [] =>
    match hd : s.dueEvent with
    | some c =>
      obtain ⟨_, e, steps⟩ := exec_steps c s
      cases e.symm.trans ((step_of_due hp ha hd).symm.trans h)
      exact steps
    | none =>
      cases (step_of_idle hp ha hd).symm.trans h
      exact .inl (Keeps.refl.same rfl)

end State

end Sys2Proof.Machine
end

section
/-! The statements about every step: O5, O9, O13. -/

open Sys2Proof Sys2Proof.Machine

/-- Settles O5: a new job touches no setting and no page, and all else keeps them. -/
theorem settingsAndPagesKept : Obligations.SettingsAndPagesKept := by
  intro s t hs hp h
  rcases State.step_steps h with keeps | ⟨j, _, keeps⟩
  · exact ⟨keeps.settings hs, keeps.pages hp⟩
  · exact ⟨keeps.settings hs, keeps.pages hp⟩

/-- Settles O9: a job of `t` has the charges and total of one of `s`, or those the new job was admitted with. -/
theorem fareBoundsKept : Obligations.FareBoundsKept := by
  intro s t hs h
  have kept : ∀ u : State, u.FaresLawful → u.Keeps t → t.FaresLawful := fun u hu keeps j' hj' => by
    obtain ⟨j, hj, e⟩ := keeps.job hj'
    obtain ⟨total, charges⟩ := hu j hj
    have et : j.fixed.total = j'.fixed.total := by rw [e]
    have el : j.fixed.lines = j'.fixed.lines := by rw [e]
    exact ⟨et ▸ total, el ▸ charges⟩
  rcases State.step_steps h with keeps | ⟨j, ⟨_, bounds⟩, keeps⟩
  · exact kept s hs keeps
  · exact kept (s.withJob j) (List.forall_mem_append.mpr ⟨hs, List.forall_mem_singleton.mpr bounds⟩) keeps

/-- Two items of a list have the same image only where they are the same, when the images are distinct. -/
theorem eq_of_nodup_map {α β : Type} {f : α → β} {l : List α} (h : (l.map f).Nodup) {a b : α} (ha : a ∈ l) (hb : b ∈ l)
    (e : f a = f b) : a = b := by
  induction l with
  | nil => cases ha
  | cons x l ih =>
    obtain ⟨fresh, rest⟩ := List.nodup_cons.mp h
    rcases List.mem_cons.mp ha with rfl | ha' <;> rcases List.mem_cons.mp hb with rfl | hb'
    · rfl
    · exact absurd (List.mem_map.mpr ⟨b, hb', e.symm⟩) fresh
    · exact absurd (List.mem_map.mpr ⟨a, ha', e⟩) fresh
    · exact ih rest ha' hb'

/-- Settles O13: a job of `t` is one of `s` but for what a step may change, and the only one of its tag; a new job has
a tag of its own. -/
theorem jobFieldsStayFixed : Obligations.JobFieldsStayFixed := by
  intro s t ht h j hj j' hj' tag
  have fixed : j'.fixed = j.fixed := by
    obtain ⟨_, nodup, _⟩ := id ht
    rcases State.step_steps h with keeps | ⟨j₁, ⟨fresh, _⟩, keeps⟩
    · obtain ⟨j₀, hj₀, e⟩ := keeps.job hj'
      have e₀ : j₀ = j := eq_of_nodup_map nodup hj₀ hj ((Job.tag_of_fixed e).trans tag)
      rw [← e, e₀]
    · obtain ⟨j₀, hj₀, e⟩ := keeps.job hj'
      rcases List.mem_append.mp hj₀ with hj₀ | new
      · have e₀ : j₀ = j := eq_of_nodup_map nodup hj₀ hj ((Job.tag_of_fixed e).trans tag)
        rw [← e, e₀]
      · cases List.mem_singleton.mp new
        exact absurd (List.mem_map.mpr ⟨j, hj, (tag.symm.trans (Job.tag_of_fixed e).symm)⟩) (fresh ht)
  exact congrArg
    (fun x : Job => { x with state := j.state, printer := j.printer, serial := j.serial, retry := j.retry }) fixed

end

section
/-! The statements about fares, ISSUE and the discount pages: O18, O19, O20, O33, O34. -/

open Sys2Proof Sys2Proof.Machine

/-- Settles O18, stage by stage. -/
theorem chargeFollowsStages : Obligations.ChargeFollowsStages := by
  intro e fare hf _
  have hn := numerator_le fare e.rate
  refine ⟨numerator fare e.rate, e.mode.round (numerator fare e.rate), rfl, by omega, e.mode.gives_round _,
    e.mode.round_le_add hn, fun hm => Rounding.round_le hm hn, ?_, ?_, chargeOf_charge e fare, chargeOf_le e fare⟩
  · rw [chargeOf_rnd, decide_eq_true_iff]
  · rw [chargeOf_min, decide_eq_true_iff]

/-- Settles O19: the six checks pass, the job joins, and the dispatcher and the transmitter change nothing of what is said. -/
theorem issueAccepted : Obligations.IssueAccepted := by
  intro w r s c hl form opened privilege queue load
  dsimp only
  intro passed
  have taken : s.takeIssue w r = s.takePriced w c := by
    rw [State.takeIssue_of_ok form, if_neg (not_not_intro opened), if_neg (by simp [privilege]), if_neg (by omega),
      if_neg (by omega)]
  rw [State.takePriced_of_passed passed] at taken
  have before : State.SameOutside (dispatchParts ++ [.shift w]) s ((s.stuck w c).acceptJob (s.issuedJob w c)) :=
    (State.stuck_frame (by simp)).trans (State.acceptJob_frame (fun q hq => by simp [hq]) (by simp [State.issuedJob, newJob]))
  obtain ⟨t, ht, replied, after⟩ := answers_of_take (c := .issue w r) hl rfl (by rw [taken]; rfl)
    (by rw [taken]; exact SameOutside.order before (by cases w <;> decide))
  rw [taken] at after
  have jobs : t.jobs = ((s.stuck w c).acceptJob (s.issuedJob w c)).jobs := after.at (q := .jobs) (by simp [replyParts])
  refine ⟨t, ht, replied, ?_, fun hs => State.freeNumber_free hs load _, ?_, ?_, ?_⟩
  · rw [jobs]
    exact State.acceptJob_tags _ _
  · have new : s.issuedJob w c ∈ t.jobs.map Job.accepted := by
      rw [jobs, State.acceptJob_accepted]
      exact List.mem_append_right _ List.mem_cons_self
    exact List.mem_map.mp new
  · have shift : t.shift w = ((s.stuck w c).acceptJob (s.issuedJob w c)).shift w :=
      after.at (q := .shift w) (by simp [replyParts])
    rw [shift]
    refine (State.acceptJob_shift (s.stuck w c) (s.issuedJob w c)).trans ?_
    have tag : (s.issuedJob w c).tag.window = w := rfl
    rw [tag, State.stuck_shift]
    rfl
  · exact (before.mono (by simp +contextual [or_imp])).trans (after.mono (by simp +contextual))

/-- Settles O20: what each check looks at, and the checks one after another. -/
theorem issueRefusedInOrder : Obligations.IssueRefusedInOrder := by
  refine ⟨fun r => ?_, fun f fare g limit c => ⟨privileged_iff f fare g c, price_spec fare g limit c⟩, refusingCode_eq_find,
    fun w r s hl => ⟨fun code form => refuses_of_take hl rfl (State.takeIssue_of_error form), fun c form => ?_⟩⟩
  · dsimp only
    have badForm := IssueForm.badForm_iff r
    have badValue := IssueForm.badValue_iff r
    simp only [IssueForm.badLine_iff] at badValue
    refine ⟨fun form => ?_, fun form value => ?_, fun form value => ?_⟩
    · rw [formCheck, if_pos (badForm.mpr form)]
    · rw [formCheck, if_neg (mt badForm.mp form), if_pos (badValue.mpr value)]
    · exact formCheck_passes (Bool.eq_false_iff.mpr (mt badForm.mp form)) (Bool.eq_false_iff.mpr (mt badValue.mp value))
  · have order := State.takeIssue_of_ok (s := s) (w := w) form
    dsimp only
    split
    · exact refuses_of_take hl rfl (by rw [order, if_pos ‹_›])
    rw [if_neg ‹_›] at order
    split
    · exact refuses_of_take hl rfl (by rw [order, if_pos (by simp [*])])
    rw [if_neg (by simp [*])] at order
    split
    · exact refuses_of_take hl rfl (by rw [order, if_pos ‹_›])
    rw [if_neg ‹_›] at order
    split
    · exact refuses_of_take hl rfl (by rw [order, if_pos ‹_›])
    rw [if_neg ‹_›] at order
    intro code refused
    rw [State.takePriced_of_refused refused] at order
    have before : State.SameOutside (.shift w :: replyParts (.window w)) s (s.stuck w c) :=
      State.stuck_frame List.mem_cons_self
    obtain ⟨t, ht, replied, after⟩ := answers_of_take (c := .issue w r) hl rfl (by rw [order])
      (by rw [order]; rfl)
    rw [order] at after
    refine ⟨t, ht, replied, ?_, before.trans (after.mono fun q hq => List.mem_cons_of_mem _ hq)⟩
    have shift : t.shift w = (s.stuck w c).shift w := after.at (q := .shift w) (by simp [replyParts])
    rw [shift, State.stuck_shift]
    rfl

/-- Settles O33: the field checks, the page check, then the one entry written. -/
theorem discountWritten : Obligations.DiscountWritten := by
  intro page entry rate mode minimum restricted s hl
  have refused : ∀ code, s.takeWriteDiscount page entry rate mode minimum restricted = s.refuse 20 code →
      s.Refuses (.writeDiscount page entry rate mode minimum restricted) .office 20 code :=
    fun code e => refuses_of_take hl rfl e
  dsimp only
  split
  · rename_i g m x hg hm hx
    split
    · exact refused _ (by simp only [State.takeWriteDiscount, hg, hm, hx]; rw [if_pos ‹_›])
    · rename_i bad
      split
      · exact refused _ (by simp only [State.takeWriteDiscount, hg, hm, hx]; rw [if_neg bad, if_pos ‹_›])
      · rename_i inactive
        let e : DiscountEntry := ⟨rate.toNat, m, minimum.toNat, x⟩
        have taken : s.takeWriteDiscount page entry rate mode minimum restricted =
            State.accept { s with fare := s.fare.write g entry.toNat e } 20 (.discount g entry.toNat e) := by
          simp only [State.takeWriteDiscount, hg, hm, hx]
          rw [if_neg bad, if_neg inactive]
        obtain ⟨t, ht, replied, frame⟩ := answers_of_take (c := .writeDiscount page entry rate mode minimum restricted)
          hl rfl (by rw [taken]; rfl) (by rw [taken]; rfl)
        rw [taken] at frame
        have fare : t.fare = s.fare.write g entry.toNat e := frame.at (q := .fare) (by decide)
        refine ⟨t, ht, replied, ?_, fun h d hd => ?_, ?_, ?_⟩
        · rw [fare, FareUnit.entry_write _ _ _ _ _ _ (by omega), if_pos ⟨rfl, rfl⟩]
        · rw [fare, FareUnit.entry_write _ _ _ _ _ _ (by omega), if_neg hd]
        · rw [fare]
          cases g <;> rfl
        · exact (setFare_frame (List.mem_cons_self)).trans (frame.mono fun q hq => List.mem_cons_of_mem _ hq)
  · rename_i bad
    refine refused _ ?_
    unfold State.takeWriteDiscount
    split
    · rename_i g m x hg hm hx
      exact absurd hx (bad g m x hg hm)
    · rfl

/-- Settles O34: the other page is never the active one, and the other of the other is. -/
theorem pageSwitched : Obligations.PageSwitched := by
  have switched : ∀ s : State, s.Listens .office → ∃ t, exec .switchPage s = .next t ∧
      s.Replied t .office (.accepted 149 (.page s.fare.active.other)) ∧
      t.fare = { s.fare with active := s.fare.active.other } ∧ s.SameOutside (.fare :: replyParts .office) t := by
    intro s hl
    obtain ⟨t, ht, replied, frame⟩ := answers_of_take (c := .switchPage) (take := State.takeSwitchPage) hl rfl rfl rfl
    exact ⟨t, ht, replied, frame.at (q := .fare) (by decide),
      (setFare_frame List.mem_cons_self).trans (frame.mono fun q hq => List.mem_cons_of_mem _ hq)⟩
  intro s hl
  obtain ⟨t, ht, replied, fare, frame⟩ := switched s hl
  refine ⟨t, _, ht, ?_, replied, fare, frame, fun hl' => ?_⟩
  · cases s.fare.active <;> decide
  · obtain ⟨u, hu, _, fare', _⟩ := switched t hl'
    refine ⟨u, hu, ?_⟩
    have twice : s.fare.active.other.other = s.fare.active := by cases s.fare.active <;> rfl
    rw [fare', fare, twice]

end

section
/-! SUPPORT. The completion of a cold start, and the laws at reset. -/

namespace Sys2Proof.Machine

/-! ### A transmitter with no notice to begin changes its link alone (R185) -/

namespace State
variable {s t u : State}

/-- `t` is `s` but for its links. -/
def Relinks (s t : State) : Prop := ∃ ls, t = { s with links := ls }

theorem Relinks.refl : s.Relinks s := ⟨_, rfl⟩

theorem Relinks.trans (a : s.Relinks t) (b : t.Relinks u) : s.Relinks u := by
  obtain ⟨_, rfl⟩ := a
  obtain ⟨_, rfl⟩ := b
  exact ⟨_, rfl⟩

theorem Relinks.window (a : s.Relinks t) (w : Window) : t.window w = s.window w := by
  obtain ⟨_, rfl⟩ := a
  rfl

theorem modLink_relinks {l : Link} {f : LinkRec → LinkRec} : s.Relinks (s.modLink l f) := ⟨_, rfl⟩

theorem pumpWindow_relinks {w : Window} (h : (s.window w).notices = []) : s.Relinks (s.pumpWindow w) := by
  have due : s.noticeDue w = none := by simp [noticeDue, h]
  unfold pumpWindow
  rw [due]
  dsimp only
  split
  · split
    · exact modLink_relinks
    · contradiction
    · contradiction
    · exact .refl
  · exact .refl

theorem pumpOffice_relinks : s.Relinks s.pumpOffice := by
  unfold pumpOffice
  dsimp only
  split
  · split
    · exact modLink_relinks
    · exact .refl
  · exact .refl

theorem pumpWindows_relinks (h : ∀ w, (s.window w).notices = []) : s.Relinks s.pumpWindows := by
  have all : ∀ (ws : List Window) (u : State), s.Relinks u → s.Relinks (ws.foldl pumpWindow u) := fun ws => by
    induction ws with
    | nil => exact fun _ hu => hu
    | cons w ws ih => exact fun u hu => ih _ (hu.trans (pumpWindow_relinks ((hu.window w).symm ▸ h w)))
  exact all allWindows s .refl

theorem pumpWindows_order (s : State) (l : Link) : (s.pumpWindows.link l).order = (s.link l).order := by
  have all : ∀ (ws : List Window) (u : State), ((ws.foldl pumpWindow u).link l).order = (u.link l).order := fun ws => by
    induction ws with
    | nil => exact fun _ => rfl
    | cons w ws ih => exact fun u => (ih _).trans (pump_order (.window w) l)
  exact all allWindows s

/-! ### The completion of a cold start (R199) -/

/-- The state of the part once a cold start has settled the kept state and the standby monitor mark (R199). -/
def coldStarted (s : State) (c : StartCause) : State := { s.coldStart c with standby := true, power := .running }

theorem coldStarted_window (s : State) (c : StartCause) (w : Window) : (s.coldStarted c).window w = .cleared := by
  cases c <;> cases w <;> rfl

/-- The reply to the office's request changes the office link alone. -/
theorem answerStart_relinks {i : StartInfo} : s.Relinks (s.answerStart i) := by
  unfold answerStart
  split
  · exact modLink_relinks.trans pumpOffice_relinks
  · exact .refl

/-- No shift waits to close after a cold start (R155, R164). -/
theorem closingEnds_cleared (h : ∀ w, s.window w = .cleared) : allWindows.foldl closingEnd s = s := by
  have stays : ∀ w, s.closingEnd w = s := fun w => (closingEnd_ended s w).2 fun ⟨closing, _⟩ => by
    have closed : (s.shift w).state = .closed := congrArg (fun r => r.shift.state) (h w)
    exact absurd (closed.symm.trans closing) (by decide)
  simp only [allWindows, List.foldl_cons, List.foldl_nil, stays]

/-- A cold start completes with nothing but its reply and the messages then begun besides the values after cold start. -/
theorem completeStart_cold {i : StartInfo} (s : State) (h : i.warm = false) :
    (s.coldStarted i.cause).Relinks (s.completeStart i) ∧
      ((s.completeStart i).link .office).order = (((s.coldStarted i.cause).answerStart i).link .office).order := by
  have answered := answerStart_relinks (s := s.coldStarted i.cause) (i := i)
  have cleared : ∀ w, ((s.coldStarted i.cause).answerStart i).window w = .cleared := fun w =>
    (answered.window w).trans (coldStarted_window s i.cause w)
  have e : s.completeStart i = ((s.coldStarted i.cause).answerStart i).pumpWindows := by
    unfold completeStart
    rw [h, if_neg Bool.false_ne_true]
    exact congrArg pumpWindows (closingEnds_cleared cleared)
  rw [e]
  exact ⟨answered.trans (pumpWindows_relinks fun w => congrArg (·.notices) (cleared w)), pumpWindows_order _ _⟩

end State

/-! ### The laws at reset -/

theorem reset_noJob {P : Job → Prop} : ∀ j ∈ State.reset.jobs, P j := fun _ h => absurd h List.not_mem_nil

theorem reset_ordersLawful : State.reset.OrdersLawful := by
  have cleared : ∀ l n, (State.reset.link l).bounded n := fun l n => by
    rw [LinkRec.bounded, reset_link]
    exact ⟨Nat.zero_le _, Nat.zero_le _, Nat.zero_le _⟩
  exact ⟨fun _ => cleared _ _, cleared _ _⟩

theorem reset_packsLawful : State.reset.PacksLawful := by
  refine ⟨fun m => ?_, fun m n _ _ k hk => ?_⟩
  · rw [reset_mag]
    exact ⟨iff_of_true rfl rfl, nofun⟩
  · rw [reset_mag] at hk
    cases hk

theorem reset_tableLawful : State.reset.TableLawful := by
  refine ⟨Nat.zero_le _, .nil, reset_noJob, fun w => ?_, fun w => ?_, Nat.zero_le _⟩
  · rw [State.load, State.carried, reset_window]
    exact Nat.zero_le _
  · rw [State.WindowListsLawful, reset_window]
    exact ⟨Nat.zero_le _, .nil, nofun, .nil, nofun, nofun⟩

theorem reset_slotsLawful : State.reset.SlotsLawful := by
  refine ⟨fun p => ?_, ⟨fun p => ?_, reset_noJob⟩, ⟨fun p => ?_, reset_noJob⟩, fun m => ?_⟩
  · rw [reset_printer, reset_lineRec]
    exact ⟨fun _ => rfl, nofun⟩
  iterate 2
    rw [reset_printer]
    exact nofun
  · rw [reset_mag]
    exact ⟨rfl, Nat.zero_le _, fun _ => rfl⟩

theorem reset_shiftsLawful : State.reset.ShiftsLawful := by
  have closed : ∀ w, State.reset.shift w = .cleared := fun w => congrArg (·.shift) (reset_window w)
  refine ⟨fun w => ?_, reset_noJob, fun w => ?_, .nil, fun w => ?_⟩
  · rw [closed]
    rfl
  · rw [closed]
    exact nofun
  · rw [closed]
    exact ⟨iff_of_false List.not_mem_nil nofun, iff_of_false nofun nofun⟩

theorem reset_blanksLawful : State.reset.BlanksLawful := by
  refine ⟨⟨fun _ h => absurd h List.not_mem_nil, .nil⟩, ⟨reset_noJob, fun p => ?_, reset_noJob⟩, fun w => ?_⟩
  · rw [reset_printer]
    exact nofun
  · rw [reset_window]
    exact fun _ h => absurd h List.not_mem_nil

end Sys2Proof.Machine
end

section
/-! The statements about the values after a cold start: O4, O30. -/

open Sys2Proof Sys2Proof.Machine

/-- Settles O4: every list is empty and every record cleared, but for the one fault record. -/
theorem resetIsLawful : Obligations.ResetIsLawful := by
  refine ⟨delivered_settings, delivered_pages, fun p => ?_, Nat.le_of_ble_eq_true rfl, ⟨Nat.zero_le _, .nil⟩,
    reset_ordersLawful, fun p => ?_, reset_packsLawful, reset_noJob, reset_tableLawful, reset_slotsLawful,
    reset_shiftsLawful, reset_blanksLawful⟩
  · rw [reset_lineRec]
    exact ⟨Nat.zero_le _, Nat.zero_le _⟩
  · rw [reset_printer]
    exact ⟨nofun, nofun⟩

/-- Settles O30: the state is that of a cold start, but for the links. -/
theorem coldStartCompletes : Obligations.ColdStartCompletes := by
  intro i s hp hw
  have run : exec .startComplete s = .next (s.completeStart i) := by
    simp only [exec, execStartComplete, hp]
  obtain ⟨⟨ls, e⟩, order⟩ := State.completeStart_cold s hw
  refine ⟨_, run, ?_⟩
  rw [State.answerStart] at order
  obtain ⟨warm, cause, since⟩ := i
  cases cause
  all_goals
    dsimp only at hw e order ⊢
    rw [e] at order ⊢
    refine ⟨rfl, rfl, delivered_entry, rfl, rfl, rfl, reset_mag, rfl, rfl, reset_printer, rfl, reset_lineRec, rfl, rfl, rfl,
      rfl, reset_window, rfl, rfl, rfl, rfl, rfl, rfl, rfl, rfl, rfl, rfl, ?_⟩
  · exact order
  · rw [order, enqueue_order, startReply, hw]
    rfl

end
